-- ==== Sys2Proof/Word.lean ====
section
/-! DEFINITION. The words of the block: a transport byte, a 16-bit field, and the 24-bit operation word
(spec/00_scope.md R10, spec/30_encoding.md R90). -/

namespace Sys2Proof

/-- One transport byte: an unsigned integer 0 to 255 (R10). -/
abbrev Byte := BitVec 8

/-- One 16-bit field of a frame, or a 16-bit register (R67). -/
abbrev Half := BitVec 16

/-- The 24-bit operation word `W = {op, arg}` the host presents (R90). -/
abbrev OpWord := BitVec 24

end Sys2Proof
end

