-- ==== Sys2Proof/Config.lean ====
section
/-! DEFINITION. The parameters of spec/00_scope.md R8 and R9 (constants of the machine) and the free values: what the
spec leaves without a definition. `MEAS_STRICT`, the one parameter the spec leaves open as a model argument, stands in
State (see Machine/State.lean). -/

namespace Sys2Proof.Config

/-- `HDR_CMD`: the header byte of command and command-response frames (R8). -/
def hdrCmd : Byte := 0x5A

/-- `HDR_MEAS`: each of the two header bytes of a measurement frame (R8). -/
def hdrMeas : Byte := 0x59

/-- `SEARCH_BUDGET`: the non-matching bytes a search may discard and still succeed (R8, R190). -/
def searchBudget : Nat := 30

/-- `MEAS_LEN`: bytes in a measurement frame (R8). -/
def measLen : Nat := 9

/-- `L_ECHO`: bytes in the frame-rate response (R8). -/
def lEcho : Nat := 6

/-- `L_VERSION`: bytes in the version response (R8). -/
def lVersion : Nat := 7

/-- `L_STATUS`: bytes in the reset response and in the save response (R8). -/
def lStatus : Nat := 5

/-- `CODE_VERSION` (R8). -/
def codeVersion : Byte := 0x01

/-- `CODE_RESET` (R8). -/
def codeReset : Byte := 0x02

/-- `CODE_FRAME_RATE` (R8). -/
def codeFrameRate : Byte := 0x03

/-- `CODE_TRIGGER` (R8). -/
def codeTrigger : Byte := 0x04

/-- `CODE_SAVE` (R8). -/
def codeSave : Byte := 0x11

/-- The operation code of GET_MEASUREMENT, the one operation that sends no command (R91). -/
def codeGetMeasurement : Byte := 0x00

/-- `TEMP_DIV`: the divisor of the temperature formula (R8). -/
def tempDiv : Nat := 8

/-- `TEMP_OFFSET`: the subtrahend of the temperature formula (R8). -/
def tempOffset : Nat := 256

/-- `MAX_PAYLOAD`: the longest payload the generic encoder accepts (R9, R131). -/
def maxPayload : Nat := 251

/-- FREE VALUE (log entry 3). The 16-bit values no rule defines: DIST, STRENGTH, TEMP after a failed search (R272) and
after HWRESET (R50). Applied to the counter `freeCtr` of State, so that each draw is a fresh unknown. -/
opaque freeHalf : Nat → Half

/-- FREE VALUE (log entry 3). The 8-bit values no rule defines: VER_PATCH, VER_MINOR, VER_MAJOR after a failed search
(R272), and those registers and both buffers after HWRESET (R50). -/
opaque freeByte : Nat → Byte

/-- FREE VALUE (log entry 4). What the host reads from `RXBUF[i]` with `i >= RXLEN` (R32), which holds no defined
value: applied to the counter of State and to the index. -/
opaque undefinedRx : Nat → Nat → Byte

end Sys2Proof.Config
end

