-- ==== Sys2Proof/Syntax.lean ====
section
/-! DEFINITION. The instructions of the block, one constructor per row of spec/opcode_table.json: six operation words
the host presents, five frames the block sends, eight frame forms the block reads (spec/30_encoding.md R105).
Beside them, what a fetch hands to the decoder. -/

namespace Sys2Proof

/-- The two operations whose response is a status pair (R100). -/
inductive StatusOp where
  | systemReset
  | saveSettings
  deriving DecidableEq, Repr

/-- The instructions: every row of spec/opcode_table.json. Operand bytes carry the table's field letters. -/
inductive Instr where
  /-- `GET_MEASUREMENT`, op 0x00 (R235). -/
  | getMeasurement (arg : Half)
  /-- `GET_VERSION`, op 0x01 (R245). -/
  | getVersion (arg : Half)
  /-- `SYSTEM_RESET`, op 0x02 (R248). -/
  | systemReset (arg : Half)
  /-- `SET_FRAME_RATE hz`, op 0x03 (R240). -/
  | setFrameRate (hz : Half)
  /-- `TRIGGER_MEASUREMENT`, op 0x04 (R238). -/
  | triggerMeasurement (arg : Half)
  /-- `SAVE_SETTINGS`, op 0x11 (R251). -/
  | saveSettings (arg : Half)
  /-- `CMD_VERSION`, sent: 5A 04 01 5F (R134). -/
  | cmdVersion
  /-- `CMD_RESET`, sent: 5A 04 02 60 (R135). -/
  | cmdReset
  /-- `CMD_FRAME_RATE`, sent: 5A 06 03 l h c, with c = (0x63 + l + h) mod 256 (R136). -/
  | cmdFrameRate (l h c : Byte)
  /-- `CMD_TRIGGER`, sent: 5A 04 04 62 (R137). -/
  | cmdTrigger
  /-- `CMD_SAVE`, sent: 5A 04 11 6F (R138). -/
  | cmdSave
  /-- `MEAS`, read: 59 59 d D s S t T c (R165). -/
  | meas (dL dH sL sH tL tH c : Byte)
  /-- `RSP.ECHO`, read by SET_FRAME_RATE: 5A e1 e2 e3 e4 c (R241). -/
  | rspEcho (e1 e2 e3 e4 c : Byte)
  /-- `RSP.STATUS.RESET_OK`, read by SYSTEM_RESET: 5A r q 00 60 (R249). -/
  | rspStatusResetOk (r q : Byte)
  /-- `RSP.STATUS.RESET_FAIL`, read by SYSTEM_RESET: 5A r q 01 61 (R249). -/
  | rspStatusResetFail (r q : Byte)
  /-- `RSP.STATUS.SAVE_OK`, read by SAVE_SETTINGS: 5A r q 00 70 (R249). -/
  | rspStatusSaveOk (r q : Byte)
  /-- `RSP.STATUS.SAVE_FAIL`, read by SAVE_SETTINGS: 5A r q 01 71 (R249). -/
  | rspStatusSaveFail (r q : Byte)
  /-- `RSP.STATUS.OTHER`, read in the context of SYSTEM_RESET or SAVE_SETTINGS: 5A r q s c, a pair (s, c) that no
  other row of that context fixes (R105, R249). -/
  | rspStatusOther (context : StatusOp) (r q s c : Byte)
  /-- `RSP.VERSION`, read by GET_VERSION: 5A r q p m j c (R246). -/
  | rspVersion (r q p m j c : Byte)
  deriving DecidableEq, Repr

/-- What a fetch hands to the decoder. The three directions of the table (R105) lie in three places of the machine, and
a received form is judged in the context of the operation in progress, so that context is part of what is fetched. -/
inductive Fetched where
  /-- direction `host`: the operation word presented at ISSUE. -/
  | word (w : OpWord)
  /-- direction `tx`: the frame in `TXBUF[0 .. TXLEN-1]`. -/
  | sent (F : List Byte)
  /-- direction `rx`: the complete frame, with the code `OP` of the operation that reads it. -/
  | received (op : Byte) (F : List Byte)
  deriving DecidableEq, Repr

/-- Why the decoder refuses what it is given. -/
inductive DecodeError where
  /-- one of the 250 reserved operation codes (R113). -/
  | reservedOperation (op : Byte)
  /-- not one of the command frames the block can send (R104). -/
  | notACommandFrame
  /-- not a frame of the form that the operation reads (R97 to R101). -/
  | notAResponseFrame
  /-- no operation with that code reads a frame. -/
  | noContext (op : Byte)
  deriving DecidableEq, Repr

end Sys2Proof
end

