-- ==== Sys2Proof/Machine/Operands.lean ====
section
/-! DEFINITION. Operands: byte order, the operation word's fields, the immediate `hz`, the status pairs, and the fields
of a received frame (spec/00_scope.md R12, spec/20_memory.md R67, spec/30_encoding.md R90 to R103). -/

namespace Sys2Proof.Machine

/-- `le16(lo, hi) = lo + 256 * hi` (R12, R67): the byte at the lower index is the less significant. -/
def le16 (lo hi : Byte) : Half := BitVec.ofNat 16 (lo.toNat + 256 * hi.toNat)

/-- `lo8(v) = v mod 256` (R12). -/
def lo8 (v : Half) : Byte := BitVec.ofNat 8 (v.toNat % 256)

/-- `hi8(v) = (v div 256) mod 256` (R12). -/
def hi8 (v : Half) : Byte := BitVec.ofNat 8 (v.toNat / 256 % 256)

/-- `tdiv(a, b)`: division truncating toward zero (R12). -/
def tdiv (a : Int) (b : Nat) : Int := if 0 ≤ a then a / b else -((-a) / b)

/-- `op = W[23:16]` (R90). -/
def opOf (w : OpWord) : Byte := w.extractLsb' 16 8

/-- `arg = W[15:0]` (R90). -/
def argOf (w : OpWord) : Half := w.extractLsb' 0 16

/-- `W = {op, arg}` (R90). -/
def opWord (op : Byte) (arg : Half) : OpWord := op ++ arg

/-- The bytes of an `n`-byte pattern of spec/opcode_table.json read as one number: frame byte 0 is the most significant
byte (R105: "8 characters per byte, frame byte 0 first, and within each byte bit 7 first"). -/
def tableBytes : Nat → Nat → List Byte
  | 0, _ => []
  | n + 1, w => BitVec.ofNat 8 (w / 256 ^ n) :: tableBytes n w

/-- The operation code in whose context a status pair is decoded (R100). -/
def statusCode : StatusOp → Byte
  | .systemReset => Config.codeReset
  | .saveSettings => Config.codeSave

/-- The success pair `(F[3], F[4])` of an operation (R100, R249). -/
def okPair : StatusOp → Byte × Byte
  | .systemReset => (0x00, 0x60)
  | .saveSettings => (0x00, 0x70)

/-- The pair by which the device itself reports failure (R100, R249). -/
def nakPair : StatusOp → Byte × Byte
  | .systemReset => (0x01, 0x61)
  | .saveSettings => (0x01, 0x71)

/-- The temperature formula on the raw value taken as unsigned: `(rawtemp div 8) - 256` (R168, R169). -/
def temperature (raw : Half) : Int := tdiv raw.toNat Config.tempDiv - Config.tempOffset

/-- `TEMP = temp mod 65536`: the temperature as a 16-bit two's complement number (R169). -/
def tempRegister (temp : Int) : Half := BitVec.ofInt 16 temp

end Sys2Proof.Machine
end

