-- ==== Sys2Proof/Machine/Flags.lean ====
section
/-! DEFINITION. The result codes and the one computed flag, CSUM_OK: the 8-bit sum, its two verification functions and
the streaming accumulator (spec/41_checksum_validator.md, spec/60_exceptions.md R260). There are no arithmetic flags
(R45). -/

namespace Sys2Proof.Machine

/-- The result codes (R260). -/
inductive ResultCode where
  | success
  | timeout
  | checksumMismatch
  | unexpectedResponse
  /-- The result of a pure function outside its domain; no operation ends with it (R266). -/
  | malformedFrame
  | deviceFailure
  | illegalOperation
  deriving DecidableEq, Repr

/-- The 3-bit number of a result code in RESULT (R260). -/
def ResultCode.number : ResultCode → BitVec 3
  | .success => 0
  | .timeout => 1
  | .checksumMismatch => 2
  | .unexpectedResponse => 3
  | .malformedFrame => 4
  | .deviceFailure => 5
  | .illegalOperation => 6

/-- `SUM8(S)`: the sum of all bytes, modulo 256 (R150). -/
def sum8 : List Byte → Byte
  | [] => 0
  | b :: S => b + sum8 S

/-- `VERIFY_RSP(F)` (R152). The constant 0x5A stands in place of `F[0]`, which is not read. Fewer than two bytes are
outside its domain (R153). -/
def verifyRsp : List Byte → Except ResultCode Bool
  | _ :: b :: rest =>
    let body := b :: rest
    .ok (sum8 (Config.hdrCmd :: body.dropLast) == body.getLast (List.cons_ne_nil b rest))
  | _ => .error .malformedFrame

/-- `VERIFY_MEAS(F) = (sum8(F[0 .. 7]) == F[8])` on a 9-byte frame (R155; the formula is from general knowledge, log
entry 8). -/
def verifyMeas : List Byte → Except ResultCode Bool
  | [f0, f1, f2, f3, f4, f5, f6, f7, f8] => .ok (sum8 [f0, f1, f2, f3, f4, f5, f6, f7] == f8)
  | _ => .error .malformedFrame

/-- ACC when a command-mode header is found (R157). -/
def accCmd : Byte := Config.hdrCmd

/-- ACC when a measurement-mode header is found: `sum8([0x59, 0x59])` (R157). -/
def accMeas : Byte := Config.hdrMeas + Config.hdrMeas

/-- ACC after a tail byte that is not the last (R157). -/
def accAdd (acc b : Byte) : Byte := acc + b

/-- CSUM_OK from the last tail byte, which is compared and not added (R157). -/
def accVerdict (acc b : Byte) : Bool := acc == b

end Sys2Proof.Machine
end

