-- ==== Sys2Proof/WellFormed.lean ====
section
/-! DEFINITION. What the bit patterns of spec/opcode_table.json cannot say of an instruction (R105: "`constraint`,
where present, states what the pattern cannot"), as a decidable check. -/

namespace Sys2Proof

/-- Well-formed instructions. A sent frame-rate command carries its checksum (R96), and the fallback row of a status
response carries a pair that no other row of its context fixes (R105). Every other row constrains nothing: a received
frame with a wrong checksum is a frame of its row, judged by the row's rule. -/
def Instr.wellFormed : Instr → Bool
  | .getMeasurement _ => true
  | .getVersion _ => true
  | .systemReset _ => true
  | .setFrameRate _ => true
  | .triggerMeasurement _ => true
  | .saveSettings _ => true
  | .cmdVersion => true
  | .cmdReset => true
  | .cmdFrameRate l h c => c == Machine.sum8 [Config.hdrCmd, 0x06, Config.codeFrameRate, l, h]
  | .cmdTrigger => true
  | .cmdSave => true
  | .meas _ _ _ _ _ _ _ => true
  | .rspEcho _ _ _ _ _ => true
  | .rspStatusResetOk _ _ => true
  | .rspStatusResetFail _ _ => true
  | .rspStatusSaveOk _ _ => true
  | .rspStatusSaveFail _ _ => true
  | .rspStatusOther ctx _ _ s c => (s, c) != Machine.okPair ctx && (s, c) != Machine.nakPair ctx
  | .rspVersion _ _ _ _ _ _ => true

end Sys2Proof
end

