-- ==== Sys2Proof/Decode.lean ====
section
/-! DEFINITION. The decoder, total on anything fetched and refusing by name, and after it the encoder, both written from
the encoding tables of spec/30_encoding.md and the rows of spec/opcode_table.json. -/

namespace Sys2Proof

/-- An operation word: the six codes of R91, every other code reserved (R113). -/
def decodeWord (w : OpWord) : Except DecodeError Instr :=
  let op := Machine.opOf w
  let arg := Machine.argOf w
  if op = Config.codeGetMeasurement then .ok (.getMeasurement arg)
  else if op = Config.codeVersion then .ok (.getVersion arg)
  else if op = Config.codeReset then .ok (.systemReset arg)
  else if op = Config.codeFrameRate then .ok (.setFrameRate arg)
  else if op = Config.codeTrigger then .ok (.triggerMeasurement arg)
  else if op = Config.codeSave then .ok (.saveSettings arg)
  else .error (.reservedOperation op)

/-- A frame the block sends: formats `CMD4` (R95) and `CMD6` (R96), by the match and mask of the table's rows. -/
def decodeSent : List Byte → Except DecodeError Instr
  | [f0, f1, f2, f3] =>
    if (f0, f1, f2, f3) = (0x5A, 0x04, 0x01, 0x5F) then .ok .cmdVersion
    else if (f0, f1, f2, f3) = (0x5A, 0x04, 0x02, 0x60) then .ok .cmdReset
    else if (f0, f1, f2, f3) = (0x5A, 0x04, 0x04, 0x62) then .ok .cmdTrigger
    else if (f0, f1, f2, f3) = (0x5A, 0x04, 0x11, 0x6F) then .ok .cmdSave
    else .error .notACommandFrame
  | [f0, f1, f2, l, h, c] =>
    if (f0, f1, f2) = (0x5A, 0x06, 0x03) then .ok (.cmdFrameRate l h c)
    else .error .notACommandFrame
  | _ => .error .notACommandFrame

/-- A measurement frame, format `MEAS` (R97). -/
def decodeMeas : List Byte → Except DecodeError Instr
  | [f0, f1, dL, dH, sL, sH, tL, tH, c] =>
    if f0 = Config.hdrMeas ∧ f1 = Config.hdrMeas then .ok (.meas dL dH sL sH tL tH c) else .error .notAResponseFrame
  | _ => .error .notAResponseFrame

/-- The response to SET_FRAME_RATE, form `RSP.ECHO` (R99). -/
def decodeEcho : List Byte → Except DecodeError Instr
  | [f0, e1, e2, e3, e4, c] =>
    if f0 = Config.hdrCmd then .ok (.rspEcho e1 e2 e3 e4 c) else .error .notAResponseFrame
  | _ => .error .notAResponseFrame

/-- The response to GET_VERSION, form `RSP.VERSION` (R101). -/
def decodeVersion : List Byte → Except DecodeError Instr
  | [f0, r, q, p, m, j, c] =>
    if f0 = Config.hdrCmd then .ok (.rspVersion r q p m j c) else .error .notAResponseFrame
  | _ => .error .notAResponseFrame

/-- The response to SYSTEM_RESET or SAVE_SETTINGS, form `RSP.STATUS` (R100): the rows with a fixed pair first, then the
fallback row (R105). -/
def decodeStatus (ctx : StatusOp) : List Byte → Except DecodeError Instr
  | [f0, r, q, s, c] =>
    if f0 = Config.hdrCmd then
      if (s, c) = Machine.okPair ctx then
        match ctx with
        | .systemReset => .ok (.rspStatusResetOk r q)
        | .saveSettings => .ok (.rspStatusSaveOk r q)
      else if (s, c) = Machine.nakPair ctx then
        match ctx with
        | .systemReset => .ok (.rspStatusResetFail r q)
        | .saveSettings => .ok (.rspStatusSaveFail r q)
      else .ok (.rspStatusOther ctx r q s c)
    else .error .notAResponseFrame
  | _ => .error .notAResponseFrame

/-- A complete received frame in the context of the operation `op` that reads it (R91, R105). -/
def decodeReceived (op : Byte) (F : List Byte) : Except DecodeError Instr :=
  if op = Config.codeGetMeasurement ∨ op = Config.codeTrigger then decodeMeas F
  else if op = Config.codeFrameRate then decodeEcho F
  else if op = Config.codeVersion then decodeVersion F
  else if op = Config.codeReset then decodeStatus .systemReset F
  else if op = Config.codeSave then decodeStatus .saveSettings F
  else .error (.noContext op)

/-- The decoder. -/
def decode : Fetched → Except DecodeError Instr
  | .word w => decodeWord w
  | .sent F => decodeSent F
  | .received op F => decodeReceived op F

/-- The bytes of a frame instruction, frame byte 0 first (R95 to R101); an operation word is no frame and has none. -/
def frameBytes : Instr → List Byte
  | .getMeasurement _ => []
  | .getVersion _ => []
  | .systemReset _ => []
  | .setFrameRate _ => []
  | .triggerMeasurement _ => []
  | .saveSettings _ => []
  | .cmdVersion => [0x5A, 0x04, 0x01, 0x5F]
  | .cmdReset => [0x5A, 0x04, 0x02, 0x60]
  | .cmdFrameRate l h c => [0x5A, 0x06, 0x03, l, h, c]
  | .cmdTrigger => [0x5A, 0x04, 0x04, 0x62]
  | .cmdSave => [0x5A, 0x04, 0x11, 0x6F]
  | .meas dL dH sL sH tL tH c => [0x59, 0x59, dL, dH, sL, sH, tL, tH, c]
  | .rspEcho e1 e2 e3 e4 c => [0x5A, e1, e2, e3, e4, c]
  | .rspStatusResetOk r q => [0x5A, r, q, 0x00, 0x60]
  | .rspStatusResetFail r q => [0x5A, r, q, 0x01, 0x61]
  | .rspStatusSaveOk r q => [0x5A, r, q, 0x00, 0x70]
  | .rspStatusSaveFail r q => [0x5A, r, q, 0x01, 0x71]
  | .rspStatusOther _ r q s c => [0x5A, r, q, s, c]
  | .rspVersion r q p m j c => [0x5A, r, q, p, m, j, c]

/-- The encoder: the word or frame of an instruction, with the place it is fetched from. A measurement frame is read
by two operations (R235, R238); the encoder names the first, and `decode` reads the same instruction under both. -/
def encode : Instr → Fetched
  | .getMeasurement arg => .word (Machine.opWord 0x00 arg)
  | .getVersion arg => .word (Machine.opWord 0x01 arg)
  | .systemReset arg => .word (Machine.opWord 0x02 arg)
  | .setFrameRate hz => .word (Machine.opWord 0x03 hz)
  | .triggerMeasurement arg => .word (Machine.opWord 0x04 arg)
  | .saveSettings arg => .word (Machine.opWord 0x11 arg)
  | .cmdVersion => .sent (frameBytes .cmdVersion)
  | .cmdReset => .sent (frameBytes .cmdReset)
  | .cmdFrameRate l h c => .sent (frameBytes (.cmdFrameRate l h c))
  | .cmdTrigger => .sent (frameBytes .cmdTrigger)
  | .cmdSave => .sent (frameBytes .cmdSave)
  | .meas dL dH sL sH tL tH c => .received 0x00 (frameBytes (.meas dL dH sL sH tL tH c))
  | .rspEcho e1 e2 e3 e4 c => .received 0x03 (frameBytes (.rspEcho e1 e2 e3 e4 c))
  | .rspStatusResetOk r q => .received 0x02 (frameBytes (.rspStatusResetOk r q))
  | .rspStatusResetFail r q => .received 0x02 (frameBytes (.rspStatusResetFail r q))
  | .rspStatusSaveOk r q => .received 0x11 (frameBytes (.rspStatusSaveOk r q))
  | .rspStatusSaveFail r q => .received 0x11 (frameBytes (.rspStatusSaveFail r q))
  | .rspStatusOther ctx r q s c => .received (Machine.statusCode ctx) (frameBytes (.rspStatusOther ctx r q s c))
  | .rspVersion r q p m j c => .received 0x01 (frameBytes (.rspVersion r q p m j c))

/-- The context in which a 5-byte status pattern of the table is read when only its bits are given: SAVE_SETTINGS where
the pair is one of its two, else SYSTEM_RESET (log entry 12). -/
def tableStatusOp (F : List Byte) : Byte :=
  match decodeStatus .saveSettings F with
  | .ok (.rspStatusSaveOk _ _) => Config.codeSave
  | .ok (.rspStatusSaveFail _ _) => Config.codeSave
  | _ => Config.codeReset

/-- What is fetched for a pattern of spec/opcode_table.json that is `nbits` wide and whose bits are `w`, as that table
numbers them. A 48-bit pattern that begins 5A 06 03 is the sent frame of its row, the more specific mask; any other is the
received echo (log entry 12). -/
def tableFetched (nbits w : Nat) : Option Fetched :=
  if nbits = 24 then some (.word (BitVec.ofNat 24 w))
  else if nbits = 32 then some (.sent (Machine.tableBytes 4 w))
  else if nbits = 40 then some (.received (tableStatusOp (Machine.tableBytes 5 w)) (Machine.tableBytes 5 w))
  else if nbits = 48 then
    match decodeSent (Machine.tableBytes 6 w) with
    | .ok _ => some (.sent (Machine.tableBytes 6 w))
    | .error _ => some (.received Config.codeFrameRate (Machine.tableBytes 6 w))
  else if nbits = 56 then some (.received Config.codeVersion (Machine.tableBytes 7 w))
  else if nbits = 72 then some (.received Config.codeGetMeasurement (Machine.tableBytes 9 w))
  else none

/-- The instruction this decoder reads from a pattern of spec/opcode_table.json. -/
def decodeTableWord (nbits w : Nat) : Option Instr :=
  match tableFetched nbits w with
  | some f => (decode f).toOption
  | none => none

end Sys2Proof
end

