-- ==== Sys2Proof/Machine/State.lean ====
section
/-! DEFINITION. The state of the machine: every register and buffer of spec/10_state.md R20, the transport's two byte
sequences (spec/20_memory.md R61), the one open parameter MEAS_STRICT (spec/00_scope.md R9), and two fields of the
model's own: the events still to come from outside, and the counter of free values. Plain data. -/

namespace Sys2Proof.Machine

/-- `PHASE` (R37). -/
inductive Phase where
  | idle
  | tx
  | search
  | tail
  deriving DecidableEq, Repr

/-- The number of a phase (R37); no rule depends on it. -/
def Phase.number : Phase → BitVec 2
  | .idle => 0
  | .tx => 1
  | .search => 2
  | .tail => 3

/-- `MODE` (R38). -/
inductive Mode where
  | cmd
  | meas
  deriving DecidableEq, Repr

/-- The number of a mode (R38). -/
def Mode.number : Mode → BitVec 1
  | .cmd => 0
  | .meas => 1

/-- One label of the transition system (R16): what the outside does next, or the block's own move. The list `env` of
State holds them in the order in which they happen, so that every interleaving of the agents is some state (log entry 1). -/
inductive Event where
  /-- ISSUE: the host presents an operation word (R220). -/
  | issue (w : OpWord)
  /-- DELIVER: the device's byte reaches the receive side (R65). -/
  | deliver (b : Byte)
  /-- HWRESET (R290). -/
  | hwReset
  /-- The block takes its own step, TXSTEP or RXSTEP, if one is enabled. -/
  | block
  deriving DecidableEq, Repr

/-- The ways a step stops with a fault. None is reachable from reset: no failure of this hardware traps (R274), and each
of these names a state that the rules say no run reaches, for which they give no step. -/
inductive Fault where
  /-- Raised by the step in phase TX when TXIDX is not below TXLEN or TXLEN passes the buffer, against R44 ("`TXIDX`
  never passes `TXLEN`"). Safe: the machine stops where the spec gives no step. -/
  | txIndex
  /-- Raised by the step in phase TAIL when RXLEN is not below LEXP or LEXP passes the buffer, against R44 ("`RXLEN`
  never passes `LEXP`"). Safe. -/
  | rxIndex
  /-- Raised by the step when TXBUF or the completed RXBUF holds no frame of the operation in progress, against R104 and
  R32. Safe. -/
  | notAFrame
  deriving DecidableEq, Repr

/-- The ways a step is refused. -/
inductive Refusal where
  /-- Raised by exec for an instruction that has no meaning yet: none is left. Safe. -/
  | notModelled (mnemonic : String)
  deriving DecidableEq, Repr

/-- The state of the machine. -/
structure State where
  /-- `OP` (R21): the code of the operation in progress or last completed. -/
  op : Byte
  /-- `ARG` (R22). -/
  arg : Half
  /-- `BUSY` (R23). -/
  busy : Bool
  /-- `DONE` (R24). -/
  done : Bool
  /-- `OVR` (R25): sticky. -/
  ovr : Bool
  /-- `RESULT` (R26): the number of a result code. -/
  result : BitVec 3
  /-- `DIST` (R27). -/
  dist : Half
  /-- `STRENGTH` (R28). -/
  strength : Half
  /-- `TEMP` (R29): two's complement. -/
  temp : Half
  /-- `CSUM_OK` (R30). -/
  csumOk : Bool
  /-- `VER_PATCH` (R31). -/
  verPatch : Byte
  /-- `VER_MINOR` (R31). -/
  verMinor : Byte
  /-- `VER_MAJOR` (R31). -/
  verMajor : Byte
  /-- `RXBUF[0..8]` (R32). -/
  rxbuf : Vector Byte 9
  /-- `RXLEN` (R33). -/
  rxlen : BitVec 4
  /-- `TXBUF[0..5]` (R34). -/
  txbuf : Vector Byte 6
  /-- `TXLEN` (R35). -/
  txlen : BitVec 3
  /-- `TXIDX` (R36). -/
  txidx : BitVec 3
  /-- `PHASE` (R37). -/
  phase : Phase
  /-- `MODE` (R38). -/
  mode : Mode
  /-- `CNT` (R39). -/
  cnt : BitVec 5
  /-- `PREV59` (R40). -/
  prev59 : Bool
  /-- `LEXP` (R41). -/
  lexp : BitVec 4
  /-- `ACC` (R42). -/
  acc : Byte
  /-- `RXQ` (R61), the transport's: bytes delivered and not yet taken, oldest first. -/
  rxq : List Byte
  /-- `TXLOG` (R61), the transport's: every byte ever put, oldest first. -/
  txlog : List Byte
  /-- `MEAS_STRICT` (R9): the model argument; no step writes it. -/
  measStrict : Bool
  /-- The model's own: the events to come, in order. When none is left the block moves on its own. -/
  env : List Event
  /-- The model's own: how many free values have been drawn. -/
  freeCtr : Nat
  deriving DecidableEq, Repr

/-- The machine right after reset: the table of R50. DIST, STRENGTH, TEMP, the version registers and the two buffers
have no defined value there; 0 is named for each (log entry 2, DESIGN CHOICE, unsafe). The queues of the transport and
the list of events are empty, MEAS_STRICT has its default (R9). -/
def State.reset : State where
  op := 0x00
  arg := 0x0000
  busy := false
  done := false
  ovr := false
  result := 0
  dist := 0
  strength := 0
  temp := 0
  csumOk := false
  verPatch := 0
  verMinor := 0
  verMajor := 0
  rxbuf := Vector.replicate 9 0
  rxlen := 0
  txbuf := Vector.replicate 6 0
  txlen := 0
  txidx := 0
  phase := .idle
  mode := .cmd
  cnt := 0
  prev59 := false
  lexp := 0
  acc := 0
  rxq := []
  txlog := []
  measStrict := false
  env := []
  freeCtr := 0

end Sys2Proof.Machine
end

