-- ==== Sys2Proof/Machine/Codec.lean ====
section
/-! DEFINITION. The frame codec's pure functions: the command frame encoder with its five frames and the frame an
accepted ISSUE loads (spec/40_command_encoder.md), and the measurement frame parser (spec/42_measurement_parser.md). -/

namespace Sys2Proof.Machine

/-- A command frame: header, length byte `n + 4`, code, payload, and the sum of all these (R92 to R94). -/
def commandFrame (code : Byte) (payload : List Byte) : List Byte :=
  let F := [Config.hdrCmd, BitVec.ofNat 8 (payload.length + 4), code] ++ payload
  F ++ [sum8 F]

/-- `ENCODE(code, payload)` (R130), with its domain (R131). -/
def encodeCommand (code : Byte) (payload : List Byte) : Except ResultCode (List Byte) :=
  if payload.length > Config.maxPayload then .error .malformedFrame else .ok (commandFrame code payload)

/-- `CMD_VERSION` (R134). -/
def cmdVersionFrame : List Byte := commandFrame Config.codeVersion []

/-- `CMD_RESET` (R135). -/
def cmdResetFrame : List Byte := commandFrame Config.codeReset []

/-- `CMD_FRAME_RATE(hz)` (R136). -/
def cmdFrameRateFrame (hz : Half) : List Byte := commandFrame Config.codeFrameRate [lo8 hz, hi8 hz]

/-- `CMD_TRIGGER` (R137). -/
def cmdTriggerFrame : List Byte := commandFrame Config.codeTrigger []

/-- `CMD_SAVE` (R138). -/
def cmdSaveFrame : List Byte := commandFrame Config.codeSave []

/-- `CMDFRAME(op, arg)` (R139): empty for GET_MEASUREMENT and for a refused code. -/
def cmdFrame (op : Byte) (arg : Half) : List Byte :=
  if op = Config.codeVersion then cmdVersionFrame
  else if op = Config.codeReset then cmdResetFrame
  else if op = Config.codeFrameRate then cmdFrameRateFrame arg
  else if op = Config.codeTrigger then cmdTriggerFrame
  else if op = Config.codeSave then cmdSaveFrame
  else []

/-- The document's Measurement (R52, R165). -/
structure Measurement where
  dist : Half
  strength : Half
  temp : Int
  deriving DecidableEq, Repr

/-- `MDEC(F)` (R165), with its domain (R171). -/
def mdec : List Byte → Except ResultCode Measurement
  | [_, _, f2, f3, f4, f5, f6, f7, _] =>
    .ok { dist := le16 f2 f3, strength := le16 f4 f5, temp := temperature (le16 f6 f7) }
  | _ => .error .malformedFrame

end Sys2Proof.Machine
end

