-- ==== Sys2Proof/Machine/Ops.lean ====
section
/-! DEFINITION. The operations that the meanings share: the transport's primitives (spec/20_memory.md), the end of an
operation, which is how this hardware delivers every failure (spec/44_operations.md R231, spec/60_exceptions.md R274;
nothing is saved and there is no return), the ISSUE step, the byte steps TXSTEP and RXSTEP, the finishing step and
HWRESET. -/

namespace Sys2Proof.Machine

/-! ## Views of the buffers -/

/-- The command frame `TXBUF[0 .. TXLEN-1]` (R34). -/
def State.txFrame (s : State) : List Byte := s.txbuf.toList.take s.txlen.toNat

/-- The frame bytes stored so far, `RXBUF[0 .. RXLEN-1]` (R32). -/
def State.rxFrame (s : State) : List Byte := s.rxbuf.toList.take s.rxlen.toNat

/-! ## The transport (R62 to R65) -/

/-- `RxAvail()` (R62). -/
def State.rxAvail (s : State) : Bool := !s.rxq.isEmpty

/-- The effect of `RxTake()` on the stream: its first byte is gone (R63). -/
def State.takeByte (s : State) : State := { s with rxq := s.rxq.tail }

/-- `TxPut(v)` (R64). -/
def State.putByte (v : Byte) (s : State) : State := { s with txlog := s.txlog ++ [v] }

/-- The DELIVER step (R65). -/
def State.deliver (b : Byte) (s : State) : State := { s with rxq := s.rxq ++ [b] }

/-! ## The end of an operation -/

/-- `complete(code)` (R231): the one way an operation ends, with success or with any failure. -/
def State.complete (code : ResultCode) (s : State) : State :=
  { s with result := code.number, phase := .idle, busy := false, done := true }

/-- The output registers of a measurement operation after a failed search: three free values (R272). -/
def State.freeMeasurement (s : State) : State :=
  { s with
    dist := Config.freeHalf s.freeCtr
    strength := Config.freeHalf (s.freeCtr + 1)
    temp := Config.freeHalf (s.freeCtr + 2)
    freeCtr := s.freeCtr + 3 }

/-- The version registers after a failed search: three free values (R272). -/
def State.freeVersion (s : State) : State :=
  { s with
    verPatch := Config.freeByte s.freeCtr
    verMinor := Config.freeByte (s.freeCtr + 1)
    verMajor := Config.freeByte (s.freeCtr + 2)
    freeCtr := s.freeCtr + 3 }

/-- The output registers of the operation in progress after a failed search (R272): the other group is not touched, and
an operation without output registers has none to lose. -/
def State.freeOutputs (s : State) : State :=
  if s.op = Config.codeGetMeasurement ∨ s.op = Config.codeTrigger then s.freeMeasurement
  else if s.op = Config.codeVersion then s.freeVersion
  else s

/-- The failed search (R198): the 31st non-matching byte has been taken. -/
def State.searchTimeout (s : State) : State :=
  State.complete .timeout (State.freeOutputs { s with cnt := 31 })

/-! ## ISSUE -/

/-- `TXBUF[0 .. TXLEN'-1] <- F`; entries past the frame are not written (R139). -/
def loadTx (F : List Byte) (buf : Vector Byte 6) : Vector Byte 6 := Vector.ofFn fun i => F.getD i buf[i]

/-- The header kind of an operation (R38). -/
def modeOf (op : Byte) : Mode :=
  if op = Config.codeGetMeasurement ∨ op = Config.codeTrigger then .meas else .cmd

/-- The length of the frame an operation reads (R41); 0 for a refused code. -/
def lexpOf (op : Byte) : BitVec 4 :=
  if op = Config.codeGetMeasurement ∨ op = Config.codeTrigger then BitVec.ofNat 4 Config.measLen
  else if op = Config.codeVersion then BitVec.ofNat 4 Config.lVersion
  else if op = Config.codeFrameRate then BitVec.ofNat 4 Config.lEcho
  else if op = Config.codeReset ∨ op = Config.codeSave then BitVec.ofNat 4 Config.lStatus
  else 0

/-- The six operation codes (R91). -/
def legalOp (op : Byte) : Bool :=
  op = Config.codeGetMeasurement || op = Config.codeVersion || op = Config.codeReset || op = Config.codeFrameRate
    || op = Config.codeTrigger || op = Config.codeSave

/-- The registers every accepted ISSUE writes, whatever the code (R221). -/
def State.latch (op : Byte) (arg : Half) (s : State) : State :=
  { s with
    op := op
    arg := arg
    done := false
    csumOk := false
    cnt := 0
    prev59 := false
    rxlen := 0
    txidx := 0
    acc := 0
    txbuf := loadTx (cmdFrame op arg) s.txbuf
    txlen := BitVec.ofNat 3 (cmdFrame op arg).length
    mode := modeOf op
    lexp := lexpOf op }

/-- The accepted operation is in progress, in its first phase (R221). -/
def State.start (p : Phase) (s : State) : State := { s with busy := true, phase := p }

/-- ISSUE accepted (R221). A code outside the six completes at once with IllegalOperation (R229); GET_MEASUREMENT has
nothing to send. -/
def State.accept (op : Byte) (arg : Half) (s : State) : State :=
  if op = Config.codeGetMeasurement then (s.latch op arg).start .search
  else if legalOp op then (s.latch op arg).start .tx
  else (s.latch op arg).complete .illegalOperation

/-- ISSUE while busy (R222): the word is dropped and the sticky mark set. -/
def State.overrun (s : State) : State := { s with ovr := true }

/-- The ISSUE step (R221, R222). -/
def State.issue (op : Byte) (arg : Half) (s : State) : State := if s.busy then s.overrun else s.accept op arg

/-! ## TXSTEP -/

/-- TXSTEP that puts the byte `v = TXBUF[TXIDX]` (R223). -/
def State.txStep (v : Byte) (s : State) : State :=
  let s1 := s.putByte v
  if s.txidx.toNat + 1 = s.txlen.toNat then { s1 with txidx := s.txlen, phase := .search }
  else { s1 with txidx := s.txidx + 1 }

/-- The meaning of a frame the block sends: one TXSTEP of it, enabled when the block is in phase TX and TXBUF holds the
frame (R223). Where no TXSTEP of the frame is enabled the state stays (log entry 6). -/
def sendFrame (F : List Byte) (s : State) : Host.Outcome State Fault Refusal :=
  if s.phase = .tx ∧ F.length = s.txlen.toNat ∧ s.txFrame = F then
    match F[s.txidx.toNat]? with
    | some v => .next (s.txStep v)
    | none => .next s
  else .next s

/-! ## RXSTEP in phase SEARCH -/

/-- A non-matching byte in the search (R191, R194): discarded, or the 31st and the operation ends with Timeout. -/
def State.discard (s : State) : State :=
  if s.cnt.toNat = Config.searchBudget then s.searchTimeout else { s with cnt := s.cnt + 1 }

/-- Header found, command mode (R192). -/
def State.headerCmd (s : State) : State :=
  { s with rxbuf := s.rxbuf.set 0 Config.hdrCmd, rxlen := 1, acc := accCmd, phase := .tail }

/-- Header found, measurement mode (R195). -/
def State.headerMeas (s : State) : State :=
  { s with
    rxbuf := (s.rxbuf.set 0 Config.hdrMeas).set 1 Config.hdrMeas
    rxlen := 2
    acc := accMeas
    prev59 := false
    phase := .tail }

/-- RXSTEP in phase SEARCH on the byte `b` (R191, R194). -/
def State.searchStep (b : Byte) (s : State) : State :=
  let s1 := s.takeByte
  match s.mode with
  | .cmd => if b = Config.hdrCmd then s1.headerCmd else s1.discard
  | .meas =>
    if b = Config.hdrMeas then
      if s.prev59 then s1.headerMeas else { s1 with prev59 := true }
    else State.discard { s1 with prev59 := false }

/-! ## RXSTEP in phase TAIL -/

/-- RXSTEP in phase TAIL on a byte that is not the last of the frame (R196). -/
def State.storeByte (b : Byte) (s : State) : State :=
  { s.takeByte with
    rxbuf := s.rxbuf.setIfInBounds s.rxlen.toNat b
    acc := accAdd s.acc b
    rxlen := s.rxlen + 1 }

/-- The last tail byte: stored and compared, before the finishing step (R196). -/
def State.storeLast (b : Byte) (s : State) : State :=
  { s.takeByte with
    rxbuf := s.rxbuf.setIfInBounds s.rxlen.toNat b
    csumOk := accVerdict s.acc b
    rxlen := s.lexp }

/-! ## The finishing step (R230): on the complete frame, after CSUM_OK has been computed -/

/-- Finishing a measurement operation (R236). -/
def State.finishMeasurement (F : List Byte) (s : State) : State :=
  match mdec F with
  | .ok m =>
    State.complete (if s.measStrict && !s.csumOk then .checksumMismatch else .success)
      { s with dist := m.dist, strength := m.strength, temp := tempRegister m.temp }
  | .error e => s.complete e

/-- The echo compare of SET_FRAME_RATE (R241). -/
def State.finishEcho (F : List Byte) (s : State) : State :=
  if !s.csumOk then s.complete .checksumMismatch
  else if F ≠ s.txbuf.toList then s.complete .unexpectedResponse
  else s.complete .success

/-- Finishing GET_VERSION (R246): the three registers are written whatever the verdict. -/
def State.finishVersion (F : List Byte) (s : State) : State :=
  match F with
  | [_, _, _, f3, f4, f5, _] =>
    State.complete (if s.csumOk then .success else .checksumMismatch)
      { s with verPatch := f3, verMinor := f4, verMajor := f5 }
  | _ => s.complete .malformedFrame

/-- `STATUS_DECODE(OP, F)` (R249). -/
def State.finishStatus (ctx : StatusOp) (F : List Byte) (s : State) : State :=
  match F with
  | [_, _, _, f3, f4] =>
    if !s.csumOk then s.complete .checksumMismatch
    else if (f3, f4) = okPair ctx then s.complete .success
    else if (f3, f4) = nakPair ctx then s.complete .deviceFailure
    else s.complete .unexpectedResponse
  | _ => s.complete .malformedFrame

/-- The complete frame `RXBUF[0 .. RXLEN-1] ++ [b]` that stands at hand when one byte of it is still to be taken and that
byte `b` is pending (R230). -/
def State.frameAtHand (s : State) : Option (List Byte × Byte) :=
  match s.rxq with
  | b :: _ => if s.rxlen.toNat + 1 = s.lexp.toNat then some (s.rxFrame ++ [b], b) else none
  | [] => none

/-- The meaning of a frame the block reads: the RXSTEP that takes its last byte, with the finishing step (R196, R230),
enabled when the block is in phase TAIL of an operation that reads this form and the frame is at hand. Where that step
is not enabled the state stays (log entry 6). -/
def readFrame (ops : List Byte) (F : List Byte) (finish : State → State) (s : State) :
    Host.Outcome State Fault Refusal :=
  if s.phase = .tail ∧ s.op ∈ ops then
    match s.frameAtHand with
    | some (G, b) => if G = F then .next (finish (s.storeLast b)) else .next s
    | none => .next s
  else .next s

/-! ## HWRESET -/

/-- HWRESET (R290): the table of R50. A register with no defined value takes a free value (log entry 3). The transport's
queues are not touched (R292), nor are the parameter and the events still to come. -/
def State.hwReset (s : State) : State :=
  { State.reset with
    dist := Config.freeHalf s.freeCtr
    strength := Config.freeHalf (s.freeCtr + 1)
    temp := Config.freeHalf (s.freeCtr + 2)
    verPatch := Config.freeByte (s.freeCtr + 3)
    verMinor := Config.freeByte (s.freeCtr + 4)
    verMajor := Config.freeByte (s.freeCtr + 5)
    rxbuf := Vector.ofFn fun i => Config.freeByte (s.freeCtr + 6 + i)
    txbuf := Vector.ofFn fun i => Config.freeByte (s.freeCtr + 15 + i)
    rxq := s.rxq
    txlog := s.txlog
    measStrict := s.measStrict
    env := s.env
    freeCtr := s.freeCtr + 21 }

end Sys2Proof.Machine
end

