-- ==== Sys2Proof/Machine/HostOps.lean ====
section
/-! DEFINITION. The six operation words: each meaning is the ISSUE step of its word (spec/44_operations.md R221, R222). What
follows an accepted ISSUE are the byte steps of the block (Machine/Step.lean), in which the frames it sends and reads are
instructions of their own. -/

namespace Sys2Proof.Machine

/-- `GET_MEASUREMENT` (R235). -/
def execGetMeasurement (arg : Half) (s : State) : Host.Outcome State Fault Refusal :=
  .next (s.issue Config.codeGetMeasurement arg)

/-- `GET_VERSION` (R245). -/
def execGetVersion (arg : Half) (s : State) : Host.Outcome State Fault Refusal :=
  .next (s.issue Config.codeVersion arg)

/-- `SYSTEM_RESET` (R248): asks the device to reset; the block is not reset (R258). -/
def execSystemReset (arg : Half) (s : State) : Host.Outcome State Fault Refusal :=
  .next (s.issue Config.codeReset arg)

/-- `SET_FRAME_RATE hz` (R240). -/
def execSetFrameRate (hz : Half) (s : State) : Host.Outcome State Fault Refusal :=
  .next (s.issue Config.codeFrameRate hz)

/-- `TRIGGER_MEASUREMENT` (R238). -/
def execTriggerMeasurement (arg : Half) (s : State) : Host.Outcome State Fault Refusal :=
  .next (s.issue Config.codeTrigger arg)

/-- `SAVE_SETTINGS` (R251). -/
def execSaveSettings (arg : Half) (s : State) : Host.Outcome State Fault Refusal :=
  .next (s.issue Config.codeSave arg)

/-- The textual form of an operation (R116): its mnemonic, and the argument of the one that has one. -/
def operationText : Instr → Option String
  | .getMeasurement _ => some "GET_MEASUREMENT"
  | .getVersion _ => some "GET_VERSION"
  | .systemReset _ => some "SYSTEM_RESET"
  | .setFrameRate hz => some ("SET_FRAME_RATE " ++ toString hz.toNat)
  | .triggerMeasurement _ => some "TRIGGER_MEASUREMENT"
  | .saveSettings _ => some "SAVE_SETTINGS"
  | .cmdVersion => none
  | .cmdReset => none
  | .cmdFrameRate _ _ _ => none
  | .cmdTrigger => none
  | .cmdSave => none
  | .meas _ _ _ _ _ _ _ => none
  | .rspEcho _ _ _ _ _ => none
  | .rspStatusResetOk _ _ => none
  | .rspStatusResetFail _ _ => none
  | .rspStatusSaveOk _ _ => none
  | .rspStatusSaveFail _ _ => none
  | .rspStatusOther _ _ _ _ _ => none
  | .rspVersion _ _ _ _ _ _ => none

end Sys2Proof.Machine
end

