-- ==== Sys2Proof/Machine/RxFrames.lean ====
section
/-! DEFINITION. The eight frame forms the block reads: each meaning is the RXSTEP that takes the frame's last byte, with the
finishing step of the operation that reads the form (spec/43_frame_synchronizer.md R196, spec/44_operations.md R230,
R236, R241, R246, R249). -/

namespace Sys2Proof.Machine

/-- `MEAS` (R236), read by GET_MEASUREMENT and TRIGGER_MEASUREMENT. -/
def execMeas (dL dH sL sH tL tH c : Byte) (s : State) : Host.Outcome State Fault Refusal :=
  readFrame [Config.codeGetMeasurement, Config.codeTrigger] (frameBytes (.meas dL dH sL sH tL tH c))
    (State.finishMeasurement (frameBytes (.meas dL dH sL sH tL tH c))) s

/-- `RSP.ECHO` (R241), read by SET_FRAME_RATE. -/
def execRspEcho (e1 e2 e3 e4 c : Byte) (s : State) : Host.Outcome State Fault Refusal :=
  readFrame [Config.codeFrameRate] (frameBytes (.rspEcho e1 e2 e3 e4 c))
    (State.finishEcho (frameBytes (.rspEcho e1 e2 e3 e4 c))) s

/-- `RSP.STATUS.RESET_OK` (R249). -/
def execRspStatusResetOk (r q : Byte) (s : State) : Host.Outcome State Fault Refusal :=
  readFrame [Config.codeReset] (frameBytes (.rspStatusResetOk r q))
    (State.finishStatus .systemReset (frameBytes (.rspStatusResetOk r q))) s

/-- `RSP.STATUS.RESET_FAIL` (R249). -/
def execRspStatusResetFail (r q : Byte) (s : State) : Host.Outcome State Fault Refusal :=
  readFrame [Config.codeReset] (frameBytes (.rspStatusResetFail r q))
    (State.finishStatus .systemReset (frameBytes (.rspStatusResetFail r q))) s

/-- `RSP.STATUS.SAVE_OK` (R249). -/
def execRspStatusSaveOk (r q : Byte) (s : State) : Host.Outcome State Fault Refusal :=
  readFrame [Config.codeSave] (frameBytes (.rspStatusSaveOk r q))
    (State.finishStatus .saveSettings (frameBytes (.rspStatusSaveOk r q))) s

/-- `RSP.STATUS.SAVE_FAIL` (R249). -/
def execRspStatusSaveFail (r q : Byte) (s : State) : Host.Outcome State Fault Refusal :=
  readFrame [Config.codeSave] (frameBytes (.rspStatusSaveFail r q))
    (State.finishStatus .saveSettings (frameBytes (.rspStatusSaveFail r q))) s

/-- `RSP.STATUS.OTHER` (R249), in the context of SYSTEM_RESET or of SAVE_SETTINGS. -/
def execRspStatusOther (ctx : StatusOp) (r q p c : Byte) (s : State) : Host.Outcome State Fault Refusal :=
  readFrame [statusCode ctx] (frameBytes (.rspStatusOther ctx r q p c))
    (State.finishStatus ctx (frameBytes (.rspStatusOther ctx r q p c))) s

/-- `RSP.VERSION` (R246), read by GET_VERSION. -/
def execRspVersion (r q p m j c : Byte) (s : State) : Host.Outcome State Fault Refusal :=
  readFrame [Config.codeVersion] (frameBytes (.rspVersion r q p m j c))
    (State.finishVersion (frameBytes (.rspVersion r q p m j c))) s

end Sys2Proof.Machine
end

