-- ==== Sys2Proof/Machine/TxFrames.lean ====
section
/-! DEFINITION. The five frames the block sends (spec/40_command_encoder.md R134 to R138): each meaning is one TXSTEP of that
frame (spec/44_operations.md R223), so that a frame of `TXLEN` bytes runs for `TXLEN` steps. -/

namespace Sys2Proof.Machine

/-- `CMD_VERSION` (R134). -/
def execCmdVersion (s : State) : Host.Outcome State Fault Refusal :=
  sendFrame (frameBytes .cmdVersion) s

/-- `CMD_RESET` (R135). -/
def execCmdReset (s : State) : Host.Outcome State Fault Refusal :=
  sendFrame (frameBytes .cmdReset) s

/-- `CMD_FRAME_RATE` (R136). -/
def execCmdFrameRate (l h c : Byte) (s : State) : Host.Outcome State Fault Refusal :=
  sendFrame (frameBytes (.cmdFrameRate l h c)) s

/-- `CMD_TRIGGER` (R137). -/
def execCmdTrigger (s : State) : Host.Outcome State Fault Refusal :=
  sendFrame (frameBytes .cmdTrigger) s

/-- `CMD_SAVE` (R138). -/
def execCmdSave (s : State) : Host.Outcome State Fault Refusal :=
  sendFrame (frameBytes .cmdSave) s

end Sys2Proof.Machine
end

