-- ==== Sys2Proof/Machine/Dispatch.lean ====
section
/-! DEFINITION. The dispatch: one arm per row of spec/opcode_table.json. -/

namespace Sys2Proof.Machine

def exec (i : Instr) (s : State) : Host.Outcome State Fault Refusal :=
  match i with
  | .getMeasurement arg => Sys2Proof.Machine.execGetMeasurement arg s
  | .getVersion arg => Sys2Proof.Machine.execGetVersion arg s
  | .systemReset arg => Sys2Proof.Machine.execSystemReset arg s
  | .setFrameRate hz => Sys2Proof.Machine.execSetFrameRate hz s
  | .triggerMeasurement arg => Sys2Proof.Machine.execTriggerMeasurement arg s
  | .saveSettings arg => Sys2Proof.Machine.execSaveSettings arg s
  | .cmdVersion => Sys2Proof.Machine.execCmdVersion s
  | .cmdReset => Sys2Proof.Machine.execCmdReset s
  | .cmdFrameRate l h c => Sys2Proof.Machine.execCmdFrameRate l h c s
  | .cmdTrigger => Sys2Proof.Machine.execCmdTrigger s
  | .cmdSave => Sys2Proof.Machine.execCmdSave s
  | .meas dL dH sL sH tL tH c => Sys2Proof.Machine.execMeas dL dH sL sH tL tH c s
  | .rspEcho f1 f2 f3 f4 c => Sys2Proof.Machine.execRspEcho f1 f2 f3 f4 c s
  | .rspStatusResetOk r q => Sys2Proof.Machine.execRspStatusResetOk r q s
  | .rspStatusResetFail r q => Sys2Proof.Machine.execRspStatusResetFail r q s
  | .rspStatusSaveOk r q => Sys2Proof.Machine.execRspStatusSaveOk r q s
  | .rspStatusSaveFail r q => Sys2Proof.Machine.execRspStatusSaveFail r q s
  | .rspStatusOther ctx r q p c => Sys2Proof.Machine.execRspStatusOther ctx r q p c s
  | .rspVersion r q p m j c => Sys2Proof.Machine.execRspVersion r q p m j c s

end Sys2Proof.Machine
end

