-- ==== Sys2Proof/Machine/Fetch.lean ====
section
/-! DEFINITION. Where the machine finds what to run next: the head of the events, and for the block's own move the place
that the phase points at (spec/00_scope.md R16, spec/10_state.md R44). Beside it, how a pattern of the opcode table is put
in that place, and what the host can read. -/

namespace Sys2Proof.Machine

/-- The state once the next label is taken from the events. -/
def State.dropEvent (s : State) : State := { s with env := s.env.tail }

/-- The next label and the state without it. With no event left the block moves (log entry 1). -/
def State.nextEvent (s : State) : Event × State := (s.env.headD .block, s.dropEvent)

/-- The block's own move in a state. -/
inductive BlockMove where
  /-- Phase IDLE, or a wait for a byte: no step of the block is enabled (R66, R281, R293). -/
  | nothing
  /-- TXSTEP of the frame in TXBUF (R223). -/
  | send (F : List Byte)
  /-- RXSTEP in phase SEARCH on the byte `b` (R191, R194). -/
  | search (b : Byte)
  /-- RXSTEP in phase TAIL on a byte that is not the last (R196). -/
  | store (b : Byte)
  /-- RXSTEP in phase TAIL that completes the frame `F` (R196, R230). -/
  | finish (F : List Byte)
  /-- A state that the rules say no run reaches. -/
  | corrupt (f : Fault)
  deriving DecidableEq, Repr

/-- Which move of the block is enabled (R44, R256). -/
def State.blockMove (s : State) : BlockMove :=
  match s.phase with
  | .idle => .nothing
  | .tx => if s.txidx.toNat < s.txlen.toNat ∧ s.txlen.toNat ≤ 6 then .send s.txFrame else .corrupt .txIndex
  | .search =>
    match s.rxq with
    | [] => .nothing
    | b :: _ => .search b
  | .tail =>
    match s.rxq with
    | [] => .nothing
    | b :: _ =>
      if s.rxlen.toNat < s.lexp.toNat ∧ s.lexp.toNat ≤ 9 then
        if s.rxlen.toNat + 1 = s.lexp.toNat then .finish (s.rxFrame ++ [b]) else .store b
      else .corrupt .rxIndex

/-- What the next step fetches as an instruction, with the state in which it runs; none where the next step runs no
instruction (a DELIVER, a HWRESET, a byte of the search or of an unfinished tail, a wait). -/
def State.fetch (s : State) : Option (Fetched × State) :=
  match s.nextEvent with
  | (.issue w, s1) => some (.word w, s1)
  | (.deliver _, _) => none
  | (.hwReset, _) => none
  | (.block, s1) =>
    match s1.blockMove with
    | .send F => some (.sent F, s1)
    | .finish F => some (.received s1.op F, s1)
    | .nothing => none
    | .search _ => none
    | .store _ => none
    | .corrupt _ => none

/-- The host's word: its instruction runs; a reserved code is refused by the ISSUE step itself (R221, R222, R229). -/
def runWord (w : OpWord) (s : State) : Host.Outcome State Fault Refusal :=
  match decode (.word w) with
  | .ok i => exec i s
  | .error _ => .next (s.issue (opOf w) (argOf w))

/-- A frame in one of the buffers: its instruction runs. -/
def runFrame (f : Fetched) (s : State) : Host.Outcome State Fault Refusal :=
  match decode f with
  | .ok i => exec i s
  | .error _ => .fault .notAFrame

/-- The block's own move. -/
def blockStep (s : State) : Host.Outcome State Fault Refusal :=
  match s.blockMove with
  | .nothing => .next s
  | .send F => runFrame (.sent F) s
  | .search b => .next (s.searchStep b)
  | .store b => .next (s.storeByte b)
  | .finish F => runFrame (.received s.op F) s
  | .corrupt f => .fault f

/-- The operation in whose context a sent frame stands, by its command code (R91). -/
def sentOp (F : List Byte) : Byte := F.getD 2 0

/-- Places what is to be fetched where the next step fetches it (log entry 11): a word at the head of the events; a sent
frame in TXBUF, in phase TX with no byte put; a received frame in RXBUF and, its last byte, at the head of RXQ, in phase
TAIL. -/
def State.place (f : Fetched) (s : State) : State :=
  match f with
  | .word w => { s with env := .issue w :: s.env }
  | .sent F =>
    { s with
      op := sentOp F
      busy := true
      done := false
      txbuf := loadTx F s.txbuf
      txlen := BitVec.ofNat 3 F.length
      txidx := 0
      phase := .tx
      mode := modeOf (sentOp F)
      lexp := lexpOf (sentOp F)
      env := .block :: s.env }
  | .received op F =>
    { s with
      op := op
      busy := true
      done := false
      rxbuf := Vector.ofFn fun i => F.dropLast.getD i s.rxbuf[i]
      rxlen := BitVec.ofNat 4 (F.length - 1)
      phase := .tail
      mode := modeOf op
      lexp := lexpOf op
      acc := sum8 F.dropLast
      rxq := F.getLast?.toList ++ s.rxq
      env := .block :: s.env }

/-- The registers that R46 lets the host read, and no others; reading changes nothing (R220). A byte of RXBUF that holds no
defined value reads as a free value (log entry 4). -/
structure HostView where
  busy : Bool
  done : Bool
  ovr : Bool
  result : BitVec 3
  csumOk : Bool
  rxlen : BitVec 4
  rxbuf : Vector Byte 9
  dist : Half
  strength : Half
  temp : Half
  verPatch : Byte
  verMinor : Byte
  verMajor : Byte
  deriving DecidableEq, Repr

/-- The host's read of `RXBUF[i]` (R32). -/
def State.readRx (s : State) (i : Fin 9) : Byte :=
  if i.val < s.rxlen.toNat then s.rxbuf[i] else Config.undefinedRx s.freeCtr i

/-- The host's view of a state. -/
def State.hostView (s : State) : HostView where
  busy := s.busy
  done := s.done
  ovr := s.ovr
  result := s.result
  csumOk := s.csumOk
  rxlen := s.rxlen
  rxbuf := Vector.ofFn s.readRx
  dist := s.dist
  strength := s.strength
  temp := s.temp
  verPatch := s.verPatch
  verMinor := s.verMinor
  verMajor := s.verMajor

/-- What stands next to the code of a completed operation (R261): the word, the frame that was judged with its verdict, the
number of discarded bytes, and the command that was sent. It names registers that R46 does not list, so it is a view of its
own (log entry 9). -/
structure ResultRecord where
  op : Byte
  arg : Half
  rxlen : BitVec 4
  frame : List Byte
  csumOk : Bool
  cnt : BitVec 5
  command : List Byte
  deriving DecidableEq, Repr

/-- The record of the completed operation; none while no operation is done (R220, R261). -/
def State.resultRecord (s : State) : Option ResultRecord :=
  if s.done = true then
    some { op := s.op, arg := s.arg, rxlen := s.rxlen, frame := s.rxFrame, csumOk := s.csumOk, cnt := s.cnt, command := s.txFrame }
  else none

/-- The two-valued view of a result (R262). -/
def State.succeeded (s : State) : Bool := s.result == ResultCode.number .success

/-- The document's Measurement (R52): what the three registers are once a measurement operation has succeeded. -/
def State.measurement (s : State) : Option Measurement :=
  if s.done = true ∧ modeOf s.op = .meas ∧ s.succeeded = true then
    some { dist := s.dist, strength := s.strength, temp := s.temp.toInt }
  else none

end Sys2Proof.Machine
end

