-- ==== Sys2Proof/Machine/Step.lean ====
section
/-! DEFINITION. One step of the machine: the next label of the transition system (spec/00_scope.md R16). -/

namespace Sys2Proof.Machine

/-- One step. -/
def step (s : State) : Host.Outcome State Fault Refusal :=
  match s.nextEvent with
  | (.issue w, s1) => runWord w s1
  | (.deliver b, s1) => .next (s1.deliver b)
  | (.hwReset, s1) => .next s1.hwReset
  | (.block, s1) => blockStep s1

/-- `s` with the opcode-table pattern `w` of `nbits` bits where the next step fetches its instruction. -/
def State.withFetchWord (s : State) (nbits w : Nat) : State :=
  match tableFetched nbits w with
  | some f => s.place f
  | none => s

end Sys2Proof.Machine
end

