-- ==== Sys2Proof/Machine/Reader.lean ====
section
/-! DEFINITION. The frame readers and the outcome of a whole operation as pure functions of the received stream
(spec/43_frame_synchronizer.md R186 to R201, spec/44_operations.md R230 to R251): the clear form that the byte steps of
the machine are claimed to refine. No step calls them. -/

namespace Sys2Proof.Machine

/-- How a frame reader ends on a stream (R200, R201). -/
inductive ReadOutcome where
  /-- The stream ends before the reader does: the block waits (R197). -/
  | starved
  /-- The header was not seen within the budget (R198); `rest` is left. -/
  | notFound (rest : List Byte)
  /-- `cnt` non-matching bytes were discarded, the frame `F` was read, `rest` is left. -/
  | frame (cnt : Nat) (F : List Byte) (rest : List Byte)
  deriving DecidableEq, Repr

/-- The tail read: exactly `n` further bytes after the header (R196, R197). -/
def readTail (hdr : List Byte) (n cnt : Nat) (q : List Byte) : ReadOutcome :=
  if n ≤ q.length then .frame cnt (hdr ++ q.take n) (q.drop n) else .starved

/-- Search and tail in command mode, `cnt` bytes discarded so far (R191, R192, R196). -/
def readCmd (L : Nat) : Nat → List Byte → ReadOutcome
  | _, [] => .starved
  | cnt, b :: q =>
    if b = Config.hdrCmd then readTail [Config.hdrCmd] (L - 1) cnt q
    else if cnt = Config.searchBudget then .notFound q
    else readCmd L (cnt + 1) q

/-- Search and tail in measurement mode; `prev` says that the byte before was 0x59 (R194, R195, R196). -/
def readMeas : Nat → Bool → List Byte → ReadOutcome
  | _, _, [] => .starved
  | cnt, prev, b :: q =>
    if b = Config.hdrMeas then
      if prev then readTail [Config.hdrMeas, Config.hdrMeas] (Config.measLen - 2) cnt q else readMeas cnt true q
    else if cnt = Config.searchBudget then .notFound q
    else readMeas (cnt + 1) false q

/-- `READ_MEAS_FRAME` (R200). -/
def readMeasFrame (q : List Byte) : ReadOutcome := readMeas 0 false q

/-- How `READ_CMD_FRAME` ends on a stream (R201), in the order of priority of the rule. -/
inductive CmdReadOutcome where
  /-- The stream ends before the reader does: the block waits (R197). -/
  | starved
  /-- The header was not seen within the budget (R198); `rest` is left. -/
  | notFound (rest : List Byte)
  /-- The frame `F` was read and its checksum is wrong. -/
  | badChecksum (cnt : Nat) (F rest : List Byte)
  /-- The frame `F` was read and its checksum is right: the operation's response decoder judges its content. -/
  | goodFrame (cnt : Nat) (F rest : List Byte)
  deriving DecidableEq, Repr

/-- The failure that `READ_CMD_FRAME` returns, none where it returns none (R201). -/
def CmdReadOutcome.failure : CmdReadOutcome → Option ResultCode
  | .starved => none
  | .notFound _ => some .timeout
  | .badChecksum _ _ _ => some .checksumMismatch
  | .goodFrame _ _ _ => none

/-- The checksum verdict on what the search and the tail read brought (R152, R201). -/
def ReadOutcome.verdict : ReadOutcome → CmdReadOutcome
  | .starved => .starved
  | .notFound rest => .notFound rest
  | .frame cnt F rest => if verifyRsp F = .ok true then .goodFrame cnt F rest else .badChecksum cnt F rest

/-- `READ_CMD_FRAME(L)` (R201): search, tail read, checksum verdict, for `2 <= L <= 255`; MalformedFrame for `L < 2`.
DESIGN CHOICE (log entry 19): for `L > 255` the spec says nothing, and the model answers MalformedFrame as well. -/
def readCmdFrame (L : Nat) (q : List Byte) : Except ResultCode CmdReadOutcome :=
  if L < 2 ∨ L > 255 then .error .malformedFrame else .ok (readCmd L 0 q).verdict

/-- The checksum verdict on a complete frame of an operation (R152, R155). -/
def frameVerdict (op : Byte) (F : List Byte) : Bool :=
  match (match modeOf op with | .cmd => verifyRsp F | .meas => verifyMeas F) with
  | .ok c => c
  | .error _ => false

/-- The result a complete frame gives its operation (R236, R241, R246, R249). -/
def judge (op : Byte) (arg : Half) (strict : Bool) (F : List Byte) : ResultCode :=
  if modeOf op = .meas then
    if strict && !frameVerdict op F then .checksumMismatch else .success
  else if !frameVerdict op F then .checksumMismatch
  else if op = Config.codeFrameRate then
    if F = cmdFrame op arg then .success else .unexpectedResponse
  else if op = Config.codeVersion then .success
  else
    let ctx : StatusOp := if op = Config.codeReset then .systemReset else .saveSettings
    if F.drop 3 = [(okPair ctx).1, (okPair ctx).2] then .success
    else if F.drop 3 = [(nakPair ctx).1, (nakPair ctx).2] then .deviceFailure
    else .unexpectedResponse

/-- What a completed operation leaves to read. -/
structure OpOutcome where
  result : ResultCode
  cnt : Nat
  frame : List Byte
  csumOk : Bool
  rest : List Byte
  deriving DecidableEq, Repr

/-- The reader an operation uses (R232). -/
def readerOf (op : Byte) (q : List Byte) : ReadOutcome :=
  match modeOf op with
  | .meas => readMeasFrame q
  | .cmd => readCmd (lexpOf op).toNat 0 q

/-- The outcome of a whole operation on the pending stream `q`; none while it waits for bytes (R232, R281). -/
def operation (op : Byte) (arg : Half) (strict : Bool) (q : List Byte) : Option OpOutcome :=
  if legalOp op then
    match readerOf op q with
    | .starved => none
    | .notFound rest => some { result := .timeout, cnt := 31, frame := [], csumOk := false, rest := rest }
    | .frame cnt F rest =>
      some { result := judge op arg strict F, cnt := cnt, frame := F, csumOk := frameVerdict op F, rest := rest }
  else some { result := .illegalOperation, cnt := 0, frame := [], csumOk := false, rest := q }

end Sys2Proof.Machine
end

