-- ==== Sys2Proof/Safety.lean ====
section
/-! DEFINITION. What counts as a safe run, in the terms claims use: the invariant of the block's registers, and the
invariant of a completed operation's outcome. -/

namespace Sys2Proof.Machine

/-- The header an operation of this mode has found when it is in phase TAIL (R187, R192, R195). -/
def headerOf : Mode → List Byte
  | .cmd => [Config.hdrCmd]
  | .meas => [Config.hdrMeas, Config.hdrMeas]

/-- `BUSY = 1` exactly outside IDLE (R23), never together with DONE (R24). -/
abbrev State.FlagsInv (s : State) : Prop :=
  (s.busy = true ↔ s.phase ≠ .idle) ∧ (s.busy = true → s.done = false)

/-- RESULT is one of the codes an operation can end with: 4 is unreachable (R266), 7 never written (R260). -/
abbrev State.ResultInv (s : State) : Prop :=
  s.result ≠ 4 ∧ s.result ≠ 7

/-- The ranges of lengths and indices (R33, R35, R36, R41, R44). -/
abbrev State.IndexInv (s : State) : Prop :=
  s.txidx.toNat ≤ s.txlen.toNat ∧ s.txlen.toNat ≤ 6 ∧ s.rxlen.toNat ≤ s.lexp.toNat ∧ s.lexp.toNat ≤ 9

/-- PREV59 is 1 only in a measurement-mode search (R40). -/
abbrev State.Prev59Inv (s : State) : Prop :=
  s.prev59 = true → s.phase = .search ∧ s.mode = .meas

/-- While an operation is in progress its registers are those its ISSUE set (R38, R41, R139) and CSUM_OK is 0 (R30). -/
abbrev State.ExchangeInv (s : State) : Prop :=
  s.phase ≠ .idle →
    legalOp s.op = true ∧ s.mode = modeOf s.op ∧ s.lexp = lexpOf s.op ∧
    s.txlen.toNat = (cmdFrame s.op s.arg).length ∧ s.txFrame = cmdFrame s.op s.arg ∧ s.csumOk = false

/-- Phase TX: bytes are left to put and nothing has been taken (R71, R223). -/
abbrev State.TxInv (s : State) : Prop :=
  s.phase = .tx → s.txidx.toNat < s.txlen.toNat ∧ s.rxlen = 0 ∧ s.cnt = 0

/-- Phase SEARCH: the command is sent, nothing is stored, the budget is not passed (R71, R190). -/
abbrev State.SearchInv (s : State) : Prop :=
  s.phase = .search → s.txidx = s.txlen ∧ s.rxlen = 0 ∧ s.cnt.toNat ≤ 30

/-- Phase TAIL: the header stands in RXBUF, bytes are missing, ACC is the sum of what is stored (R32, R158). -/
abbrev State.TailInv (s : State) : Prop :=
  s.phase = .tail →
    s.txidx = s.txlen ∧ (headerOf s.mode).length ≤ s.rxlen.toNat ∧ s.rxlen.toNat < s.lexp.toNat ∧
    s.rxFrame.take (headerOf s.mode).length = headerOf s.mode ∧ s.acc = sum8 s.rxFrame ∧ s.cnt.toNat ≤ 30

/-- The invariant of the block. -/
abbrev State.Inv (s : State) : Prop :=
  s.FlagsInv ∧ s.ResultInv ∧ s.IndexInv ∧ s.Prev59Inv ∧ s.ExchangeInv ∧ s.TxInv ∧ s.SearchInv ∧ s.TailInv

/-- What the registers say of a completed operation (R261): a refused code, a failed search, or a complete frame with
its checksum verdict (R158) and the result that frame gives (R230). -/
abbrev State.OutcomeInv (s : State) : Prop :=
  s.done = true →
    (s.result = ResultCode.number .illegalOperation ∧ legalOp s.op = false ∧ s.rxlen = 0 ∧ s.csumOk = false) ∨
    (s.result = ResultCode.number .timeout ∧ legalOp s.op = true ∧ s.rxlen = 0 ∧ s.csumOk = false ∧ s.cnt = 31) ∨
    (legalOp s.op = true ∧ s.rxlen = lexpOf s.op ∧ s.cnt.toNat ≤ 30 ∧
      s.rxFrame.take (headerOf (modeOf s.op)).length = headerOf (modeOf s.op) ∧
      s.csumOk = frameVerdict s.op s.rxFrame ∧
      s.result = ResultCode.number (judge s.op s.arg s.measStrict s.rxFrame))

/-- A Measurement that the host can read is the decode of the one frame in RXBUF (R52). -/
abbrev State.MeasurementInv (s : State) : Prop :=
  ∀ m ∈ s.measurement, mdec s.rxFrame = .ok m

/-- The host has kept its duty not to issue while the block is busy (R222, R300). -/
abbrev State.HostDutyKept (s : State) : Prop := s.ovr = false

/-- The search of the operation in progress has failed, in the step that leaves `base` but for its end (R198, R272): RESULT
is Timeout, the output registers of this operation hold some values, those of the other group are as before. -/
def EndsWithTimeout (base : State) (r : Host.Outcome State Fault Refusal) : Prop :=
  ∃ (d st te : Half) (pa mi ma : Byte) (fc : Nat),
    r = .next { base with
          cnt := 31, result := 1, phase := .idle, busy := false, done := true
          dist := d, strength := st, temp := te, verPatch := pa, verMinor := mi, verMajor := ma, freeCtr := fc } ∧
    (base.op ≠ 0x00 → base.op ≠ 0x04 → d = base.dist ∧ st = base.strength ∧ te = base.temp) ∧
    (base.op ≠ 0x01 → pa = base.verPatch ∧ mi = base.verMinor ∧ ma = base.verMajor)

/-- Two states that no operation in progress can tell apart: they agree on every register that a step of an operation
reads, on the defined bytes of the buffers, on the pending bytes, on the parameter and on what is to come, and, once the
operation is done, on its result. Nothing is said of OVR, of TXLOG, or of a RESULT and output registers that an earlier
operation left (R49). -/
structure SameOperation (s t : State) : Prop where
  op : s.op = t.op
  arg : s.arg = t.arg
  busy : s.busy = t.busy
  done : s.done = t.done
  csumOk : s.csumOk = t.csumOk
  rxlen : s.rxlen = t.rxlen
  rxFrame : s.rxFrame = t.rxFrame
  txlen : s.txlen = t.txlen
  txFrame : s.txFrame = t.txFrame
  txidx : s.txidx = t.txidx
  phase : s.phase = t.phase
  mode : s.mode = t.mode
  cnt : s.cnt = t.cnt
  prev59 : s.prev59 = t.prev59
  lexp : s.lexp = t.lexp
  acc : s.acc = t.acc
  rxq : s.rxq = t.rxq
  measStrict : s.measStrict = t.measStrict
  env : s.env = t.env
  freeCtr : s.freeCtr = t.freeCtr
  result : s.done = true → s.result = t.result
  measurement : s.done = true → modeOf s.op = .meas → s.dist = t.dist ∧ s.strength = t.strength ∧ s.temp = t.temp
  version : s.done = true → s.op = Config.codeVersion →
    s.verPatch = t.verPatch ∧ s.verMinor = t.verMinor ∧ s.verMajor = t.verMajor

/-- A safe step: the machine goes on, without a fault and without a refusal (R274). -/
abbrev SafeStep (s : State) : Prop := ∃ t, step s = .next t

end Sys2Proof.Machine
end

