-- ==== Sys2Proof/Certificates/Slice0/Obligations.lean ====
section
/-! DEFINITION. The statements for the provers. Where a statement writes out the next state it writes it in the spec's
terms, with numerals, so that everything not named in it is unchanged: the statement is its own frame. -/

open Sys2Proof Sys2Proof.Machine

/-! ## Encodings -/

/-- Decoding the encoding of a well-formed instruction gives the instruction back: no operand bit is dropped
(R90 to R101, R105). -/
def Obligations.DecodeReadsBackEncode : Prop :=
  ∀ i : Instr, i.wellFormed = true → decode (encode i) = .ok i

/-- What the decoder accepts is the encoding of what it answers; a measurement frame is read in two contexts (R235, R238).
That its encoding names the context of GET_MEASUREMENT is the model's choice (log entry 17). -/
def Obligations.EncodeWritesBackDecode : Prop :=
  ∀ (f : Fetched) (i : Instr), decode f = .ok i →
    encode i = f ∨ ∃ F, f = .received 0x04 F ∧ encode i = .received 0x00 F

/-- Words written out from the spec's encodings (R91, R95, R96, R97, R99 to R101) decode to the instructions they stand for. -/
def Obligations.SpecWordsDecode : Prop :=
  decode (.word 0x000000) = .ok (.getMeasurement 0) ∧
  decode (.word 0x030064) = .ok (.setFrameRate 100) ∧
  decode (.word 0x11FFFF) = .ok (.saveSettings 0xFFFF) ∧
  decode (.sent [0x5A, 0x04, 0x04, 0x62]) = .ok .cmdTrigger ∧
  decode (.sent [0x5A, 0x06, 0x03, 0x04, 0x00, 0x67]) = .ok (.cmdFrameRate 0x04 0x00 0x67) ∧
  decode (.received 0x04 [0x59, 0x59, 0x64, 0x00, 0xE8, 0x03, 0x00, 0x08, 0x09]) =
    .ok (.meas 0x64 0x00 0xE8 0x03 0x00 0x08 0x09) ∧
  decode (.received 0x03 [0x5A, 0x06, 0x03, 0x04, 0x00, 0x67]) = .ok (.rspEcho 0x06 0x03 0x04 0x00 0x67) ∧
  decode (.received 0x11 [0x5A, 0x05, 0x11, 0x01, 0x71]) = .ok (.rspStatusSaveFail 0x05 0x11) ∧
  decode (.received 0x02 [0x5A, 0x05, 0x02, 0x00, 0x61]) = .ok (.rspStatusOther .systemReset 0x05 0x02 0x00 0x61) ∧
  decode (.received 0x01 [0x5A, 0x07, 0x01, 0x02, 0x03, 0x01, 0x68]) = .ok (.rspVersion 0x07 0x01 0x02 0x03 0x01 0x68)

/-- An operation word is refused by the decoder exactly when its code is none of the six (R113), and the refusal names it. -/
def Obligations.ReservedCodesAreRefusedByName : Prop :=
  ∀ w : OpWord,
    decode (.word w) = .error (.reservedOperation (w.extractLsb' 16 8)) ↔
      w.extractLsb' 16 8 ∉ ([0x00, 0x01, 0x02, 0x03, 0x04, 0x11] : List Byte)

/-! ## The step -/

/-- A step runs the decoded instruction: the host's word at the head of the events; the frame in TXBUF while it is being
sent; the received frame of which the last byte is pending. Around exec the step only takes the label it follows. -/
def Obligations.StepRunsTheDecodedInstruction : Prop :=
  (∀ (s : State) (w : OpWord) (rest : List Event) (i : Instr),
    s.env = .issue w :: rest → decode (.word w) = .ok i → step s = exec i { s with env := rest }) ∧
  (∀ (s s1 : State) (i : Instr),
    s.nextEvent = (.block, s1) → s1.phase = .tx → s1.txidx.toNat < s1.txlen.toNat → s1.txlen.toNat ≤ 6 →
    decode (.sent (s1.txbuf.toList.take s1.txlen.toNat)) = .ok i → step s = exec i s1) ∧
  (∀ (s s1 : State) (b : Byte) (q : List Byte) (i : Instr),
    s.nextEvent = (.block, s1) → s1.phase = .tail → s1.rxq = b :: q →
    s1.rxlen.toNat + 1 = s1.lexp.toNat → s1.lexp.toNat ≤ 9 →
    decode (.received s1.op (s1.rxbuf.toList.take s1.rxlen.toNat ++ [b])) = .ok i → step s = exec i s1)

/-- The label a step follows: the head of the events, which it removes, or the block's own move where none is left
(the model's own arrangement, log entry 1). -/
def Obligations.StepFollowsTheEvents : Prop :=
  (∀ s : State, s.env = [] → s.nextEvent = (.block, s)) ∧
  (∀ (s : State) (e : Event) (rest : List Event), s.env = e :: rest → s.nextEvent = (e, { s with env := rest }))

/-- DELIVER appends one byte to RXQ, in any phase, and does nothing else (R65). -/
def Obligations.DeliverAppendsOneByte : Prop :=
  ∀ (s s1 : State) (b : Byte), s.nextEvent = (.deliver b, s1) → step s = .next { s1 with rxq := s1.rxq ++ [b] }

/-- With no byte pending in SEARCH or TAIL, and in IDLE always, no step of the block is enabled: its own move leaves the
state as it is (R66, R293; that a move without an enabled step is a step that changes nothing is log entry 5). -/
def Obligations.BlockWaitsWithoutChange : Prop :=
  ∀ s s1 : State, s.nextEvent = (.block, s1) →
    (s1.phase = .idle ∨ ((s1.phase = .search ∨ s1.phase = .tail) ∧ s1.rxq = [])) → step s = .next s1

/-! ## ISSUE -/

/-- ISSUE, accepted (R221): every operation latches its word, clears the per-operation registers, loads its command frame
(R139), its header kind and its length, and enters its phase; RESULT, the output registers, OVR, RXBUF and the transport
are unchanged. A code outside the six completes in the same step with IllegalOperation (R229). -/
def Obligations.AcceptedIssueStartsTheOperation : Prop :=
  (∀ (s : State) (arg : Half), s.busy = false →
    exec (.getMeasurement arg) s = .next { s with
      op := 0x00, arg := arg, done := false, csumOk := false, cnt := 0, prev59 := false, rxlen := 0, txidx := 0, acc := 0
      txlen := 0, mode := .meas, lexp := 9, busy := true, phase := .search } ∧
    exec (.triggerMeasurement arg) s = .next { s with
      op := 0x04, arg := arg, done := false, csumOk := false, cnt := 0, prev59 := false, rxlen := 0, txidx := 0, acc := 0
      txbuf := #v[0x5A, 0x04, 0x04, 0x62, s.txbuf[4], s.txbuf[5]], txlen := 4
      mode := .meas, lexp := 9, busy := true, phase := .tx } ∧
    exec (.getVersion arg) s = .next { s with
      op := 0x01, arg := arg, done := false, csumOk := false, cnt := 0, prev59 := false, rxlen := 0, txidx := 0, acc := 0
      txbuf := #v[0x5A, 0x04, 0x01, 0x5F, s.txbuf[4], s.txbuf[5]], txlen := 4
      mode := .cmd, lexp := 7, busy := true, phase := .tx } ∧
    exec (.systemReset arg) s = .next { s with
      op := 0x02, arg := arg, done := false, csumOk := false, cnt := 0, prev59 := false, rxlen := 0, txidx := 0, acc := 0
      txbuf := #v[0x5A, 0x04, 0x02, 0x60, s.txbuf[4], s.txbuf[5]], txlen := 4
      mode := .cmd, lexp := 5, busy := true, phase := .tx } ∧
    exec (.setFrameRate arg) s = .next { s with
      op := 0x03, arg := arg, done := false, csumOk := false, cnt := 0, prev59 := false, rxlen := 0, txidx := 0, acc := 0
      txbuf := #v[0x5A, 0x06, 0x03, arg.extractLsb' 0 8, arg.extractLsb' 8 8,
        0x63 + arg.extractLsb' 0 8 + arg.extractLsb' 8 8]
      txlen := 6, mode := .cmd, lexp := 6, busy := true, phase := .tx } ∧
    exec (.saveSettings arg) s = .next { s with
      op := 0x11, arg := arg, done := false, csumOk := false, cnt := 0, prev59 := false, rxlen := 0, txidx := 0, acc := 0
      txbuf := #v[0x5A, 0x04, 0x11, 0x6F, s.txbuf[4], s.txbuf[5]], txlen := 4
      mode := .cmd, lexp := 5, busy := true, phase := .tx }) ∧
  (∀ (s s1 : State) (w : OpWord), s.nextEvent = (.issue w, s1) → s1.busy = false →
    w.extractLsb' 16 8 ∉ ([0x00, 0x01, 0x02, 0x03, 0x04, 0x11] : List Byte) →
    step s = .next { s1 with
      op := w.extractLsb' 16 8, arg := w.extractLsb' 0 16, csumOk := false, cnt := 0, prev59 := false, rxlen := 0
      txidx := 0, acc := 0, txlen := 0, mode := .cmd, lexp := 0
      result := 6, phase := .idle, busy := false, done := true })

/-- ISSUE while busy does one thing, for each of the six operations and for a reserved code: `OVR <- 1` (R222). -/
def Obligations.IssueWhileBusyOnlyMarksOverrun : Prop :=
  (∀ (s : State) (arg : Half), s.busy = true →
    exec (.getMeasurement arg) s = .next { s with ovr := true } ∧
    exec (.getVersion arg) s = .next { s with ovr := true } ∧
    exec (.systemReset arg) s = .next { s with ovr := true } ∧
    exec (.setFrameRate arg) s = .next { s with ovr := true } ∧
    exec (.triggerMeasurement arg) s = .next { s with ovr := true } ∧
    exec (.saveSettings arg) s = .next { s with ovr := true }) ∧
  (∀ (s s1 : State) (w : OpWord), s.nextEvent = (.issue w, s1) → s1.busy = true →
    step s = .next { s1 with ovr := true })

/-! ## TXSTEP -/

/-- TXSTEP (R223), for each of the five frames the block sends: in phase TX with the frame in TXBUF, its byte at TXIDX is put
to TXLOG, TXIDX advances, and the last byte leads to phase SEARCH. -/
def Obligations.SentFramePutsItsNextByte : Prop :=
  ∀ (i : Instr) (F : List Byte) (s : State) (v : Byte),
    ((i = .cmdVersion ∧ F = [0x5A, 0x04, 0x01, 0x5F]) ∨ (i = .cmdReset ∧ F = [0x5A, 0x04, 0x02, 0x60]) ∨
      (i = .cmdTrigger ∧ F = [0x5A, 0x04, 0x04, 0x62]) ∨ (i = .cmdSave ∧ F = [0x5A, 0x04, 0x11, 0x6F]) ∨
      ∃ l h c, i = .cmdFrameRate l h c ∧ F = [0x5A, 0x06, 0x03, l, h, c]) →
    s.phase = .tx → s.txlen.toNat = F.length → s.txbuf.toList.take s.txlen.toNat = F → F[s.txidx.toNat]? = some v →
    exec i s = .next
      (if s.txidx.toNat + 1 = s.txlen.toNat then { s with txlog := s.txlog ++ [v], txidx := s.txlen, phase := .search }
      else { s with txlog := s.txlog ++ [v], txidx := s.txidx + 1 })

/-- A whole command frame goes out: left to itself, the block at the start of phase TX puts exactly the frame of its
operation, takes no byte meanwhile, and is then in SEARCH (R71, R224). -/
def Obligations.WholeCommandFrameIsSent : Prop :=
  ∀ s : State, s.Inv → s.phase = .tx → s.txidx = 0 → s.env = [] →
    Host.Core.run Sys2Proof.core s.txlen.toNat s =
      .next { s with txlog := s.txlog ++ cmdFrame s.op s.arg, txidx := s.txlen, phase := .search }

/-! ## RXSTEP in phase SEARCH -/

/-- The search step in command mode (R191, R192): 0x5A is the header; another byte is discarded and counted; the 31st
ends the operation with Timeout. -/
def Obligations.CommandSearchStep : Prop :=
  ∀ (s s1 : State) (b : Byte) (q : List Byte),
    s.nextEvent = (.block, s1) → s1.phase = .search → s1.mode = .cmd → s1.rxq = b :: q →
    (b = 0x5A → step s = .next { s1 with
      rxq := q, rxbuf := s1.rxbuf.set 0 0x5A, rxlen := 1, acc := 0x5A, phase := .tail }) ∧
    (b ≠ 0x5A → s1.cnt.toNat < 30 → step s = .next { s1 with rxq := q, cnt := s1.cnt + 1 }) ∧
    (b ≠ 0x5A → s1.cnt = 30 → EndsWithTimeout { s1 with rxq := q } (step s))

/-- The search step in measurement mode (R194, R195): a 0x59 after a 0x59 is the header; a first 0x59 is remembered and not
counted; another byte is discarded and counted and forgets it; the 31st such byte ends the operation with Timeout. -/
def Obligations.MeasurementSearchStep : Prop :=
  ∀ (s s1 : State) (b : Byte) (q : List Byte),
    s.nextEvent = (.block, s1) → s1.phase = .search → s1.mode = .meas → s1.rxq = b :: q →
    (b = 0x59 → s1.prev59 = true → step s = .next { s1 with
      rxq := q, rxbuf := (s1.rxbuf.set 0 0x59).set 1 0x59, rxlen := 2, acc := 0xB2, prev59 := false, phase := .tail }) ∧
    (b = 0x59 → s1.prev59 = false → step s = .next { s1 with rxq := q, prev59 := true }) ∧
    (b ≠ 0x59 → s1.cnt.toNat < 30 → step s = .next { s1 with rxq := q, prev59 := false, cnt := s1.cnt + 1 }) ∧
    (b ≠ 0x59 → s1.cnt = 30 → EndsWithTimeout { s1 with rxq := q, prev59 := false } (step s))

/-! ## RXSTEP in phase TAIL -/

/-- A tail byte that is not the last is stored and added to ACC, whatever its value; CNT and the phase keep their values
(R196, R197). -/
def Obligations.TailByteIsStoredAndSummed : Prop :=
  ∀ (s s1 : State) (b : Byte) (q : List Byte),
    s.nextEvent = (.block, s1) → s1.phase = .tail → s1.rxq = b :: q →
    s1.rxlen.toNat + 1 < s1.lexp.toNat → s1.lexp.toNat ≤ 9 →
    ∃ h : s1.rxlen.toNat < 9, step s = .next { s1 with
      rxq := q, rxbuf := s1.rxbuf.set s1.rxlen.toNat b h, acc := s1.acc + b, rxlen := s1.rxlen + 1 }

/-- The last byte of a measurement frame (R196, R236): stored and compared with ACC; DIST, STRENGTH and TEMP are written
together from this frame, little-endian and by the temperature formula (R166 to R169); the verdict affects RESULT only
under MEAS_STRICT. -/
def Obligations.MeasurementFrameFinishes : Prop :=
  ∀ (s : State) (dL dH sL sH tL tH c : Byte) (q : List Byte),
    s.phase = .tail → (s.op = 0x00 ∨ s.op = 0x04) → s.lexp = 9 → s.rxlen = 8 →
    s.rxbuf.toList.take 8 = [0x59, 0x59, dL, dH, sL, sH, tL, tH] → s.rxq = c :: q →
    exec (.meas dL dH sL sH tL tH c) s = .next { s with
      rxq := q, rxbuf := s.rxbuf.set 8 c, rxlen := 9, csumOk := s.acc == c
      dist := BitVec.ofNat 16 (dL.toNat + 256 * dH.toNat)
      strength := BitVec.ofNat 16 (sL.toNat + 256 * sH.toNat)
      temp := BitVec.ofInt 16 (((tL.toNat + 256 * tH.toNat) / 8 : Nat) - 256 : Int)
      result := if s.measStrict = true ∧ s.acc ≠ c then 2 else 0
      phase := .idle, busy := false, done := true }

/-- The last byte of the frame-rate response (R196, R241): the verdict first, then the echo compare with TXBUF. -/
def Obligations.EchoFrameFinishes : Prop :=
  ∀ (s : State) (e1 e2 e3 e4 c : Byte) (q : List Byte),
    s.phase = .tail → s.op = 0x03 → s.lexp = 6 → s.rxlen = 5 →
    s.rxbuf.toList.take 5 = [0x5A, e1, e2, e3, e4] → s.rxq = c :: q →
    exec (.rspEcho e1 e2 e3 e4 c) s = .next { s with
      rxq := q, rxbuf := s.rxbuf.set 5 c, rxlen := 6, csumOk := s.acc == c
      result := if s.acc ≠ c then 2 else if s.txbuf.toList = [0x5A, e1, e2, e3, e4, c] then 0 else 3
      phase := .idle, busy := false, done := true }

/-- The last byte of the version response (R196, R246): patch, minor, major are bytes 3, 4, 5, written whatever the
verdict. -/
def Obligations.VersionFrameFinishes : Prop :=
  ∀ (s : State) (r k p m j c : Byte) (q : List Byte),
    s.phase = .tail → s.op = 0x01 → s.lexp = 7 → s.rxlen = 6 →
    s.rxbuf.toList.take 6 = [0x5A, r, k, p, m, j] → s.rxq = c :: q →
    exec (.rspVersion r k p m j c) s = .next { s with
      rxq := q, rxbuf := s.rxbuf.set 6 c, rxlen := 7, csumOk := s.acc == c
      verPatch := p, verMinor := m, verMajor := j
      result := if s.acc ≠ c then 2 else 0
      phase := .idle, busy := false, done := true }

/-- The last byte of a status response (R196, R249), for the five status rows: with a wrong checksum the pair is not looked
at; the success pair gives Success, the failure pair DeviceFailure, any other UnexpectedResponse. -/
def Obligations.StatusFrameFinishes : Prop :=
  ∀ (i : Instr) (code r k st c : Byte) (good : BitVec 3) (s : State) (q : List Byte),
    ((i = .rspStatusResetOk r k ∧ code = 0x02 ∧ st = 0x00 ∧ c = 0x60 ∧ good = 0) ∨
      (i = .rspStatusResetFail r k ∧ code = 0x02 ∧ st = 0x01 ∧ c = 0x61 ∧ good = 5) ∨
      (i = .rspStatusSaveOk r k ∧ code = 0x11 ∧ st = 0x00 ∧ c = 0x70 ∧ good = 0) ∨
      (i = .rspStatusSaveFail r k ∧ code = 0x11 ∧ st = 0x01 ∧ c = 0x71 ∧ good = 5) ∨
      (i = .rspStatusOther .systemReset r k st c ∧ code = 0x02 ∧ (st, c) ≠ (0x00, 0x60) ∧ (st, c) ≠ (0x01, 0x61) ∧
        good = 3) ∨
      (i = .rspStatusOther .saveSettings r k st c ∧ code = 0x11 ∧ (st, c) ≠ (0x00, 0x70) ∧ (st, c) ≠ (0x01, 0x71) ∧
        good = 3)) →
    s.phase = .tail → s.op = code → s.lexp = 5 → s.rxlen = 4 →
    s.rxbuf.toList.take 4 = [0x5A, r, k, st] → s.rxq = c :: q →
    exec i s = .next { s with
      rxq := q, rxbuf := s.rxbuf.set 4 c, rxlen := 5, csumOk := s.acc == c
      result := if s.acc ≠ c then 2 else good
      phase := .idle, busy := false, done := true }

/-- A frame that is not at hand has no step, and its meaning leaves the state as it is. A sent frame is at hand in phase TX
with exactly its bytes in TXBUF and one of them still to put; a received frame in phase TAIL of an operation that reads its
form, with its last byte, the one still missing, at the head of RXQ. This is the model's choice (log entry 6; that a
measurement frame is read under 0x04 as well as under its encoding's 0x00, log entry 17): the spec gives a frame no step
there. -/
def Obligations.FrameNotAtHandLeavesTheState : Prop :=
  (∀ (i : Instr) (F : List Byte) (s : State), encode i = .sent F →
    ¬ (s.phase = .tx ∧ s.txlen.toNat = F.length ∧ s.txbuf.toList.take s.txlen.toNat = F ∧ s.txidx.toNat < F.length) →
    exec i s = .next s) ∧
  (∀ (i : Instr) (op : Byte) (F : List Byte) (s : State), encode i = .received op F →
    ¬ (s.phase = .tail ∧ (s.op = op ∨ (op = 0x00 ∧ s.op = 0x04)) ∧ s.rxlen.toNat + 1 = s.lexp.toNat ∧
      ∃ b q, s.rxq = b :: q ∧ s.rxbuf.toList.take s.rxlen.toNat ++ [b] = F) →
    exec i s = .next s)

/-! ## Reset -/

/-- The reset state: every register that R50 gives a value has it. That the two queues of the transport are empty in it is
the model's choice (log entry 20): a reset of the block does not touch them (R292). -/
def Obligations.ResetLeavesTheTableOfResetValues : Prop :=
  State.reset.phase = .idle ∧ State.reset.busy = false ∧ State.reset.done = false ∧ State.reset.ovr = false ∧
  State.reset.result = 0 ∧ State.reset.csumOk = false ∧ State.reset.op = 0x00 ∧ State.reset.arg = 0x0000 ∧
  State.reset.mode = .cmd ∧ State.reset.cnt = 0 ∧ State.reset.prev59 = false ∧ State.reset.lexp = 0 ∧
  State.reset.rxlen = 0 ∧ State.reset.txlen = 0 ∧ State.reset.txidx = 0 ∧ State.reset.acc = 0x00 ∧
  State.reset.rxq = [] ∧ State.reset.txlog = []

/-- HWRESET, in any state (R290, R292): every register that the table of R50 gives a value takes it, the others hold some
value, and RXQ and TXLOG are not touched. That the parameter and the events to come stay as well is the model's own
arrangement (log entry 18). -/
def Obligations.HardwareResetInAnyState : Prop :=
  ∀ s s1 : State, s.nextEvent = (.hwReset, s1) →
    ∃ (d st te : Half) (pa mi ma : Byte) (rb : Vector Byte 9) (tb : Vector Byte 6) (fc : Nat),
      step s = .next {
        phase := .idle, busy := false, done := false, ovr := false, result := 0, csumOk := false, op := 0x00, arg := 0x0000
        mode := .cmd, cnt := 0, prev59 := false, lexp := 0, rxlen := 0, txlen := 0, txidx := 0, acc := 0x00
        dist := d, strength := st, temp := te, verPatch := pa, verMinor := mi, verMajor := ma, rxbuf := rb, txbuf := tb
        rxq := s1.rxq, txlog := s1.txlog, measStrict := s1.measStrict, env := s1.env, freeCtr := fc }

/-- The invariants hold in the reset state. -/
def Obligations.ResetMeetsTheInvariants : Prop :=
  State.reset.Inv ∧ State.reset.OutcomeInv ∧ State.reset.MeasurementInv ∧ State.reset.HostDutyKept

/-! ## Invariants -/

/-- HEADLINE. Every step keeps the invariant of the block, from every state that meets it: BUSY is 1 exactly outside IDLE and
never with DONE (R23, R24), RESULT never is 4 or 7 (R260, R266), the indices stay in their ranges (R44), the registers of
the operation in progress stay those of its ISSUE (R38, R41, R139), the header stands in RXBUF and ACC is the sum of the
stored bytes (R32, R158), the budget is not passed (R190). -/
def Obligations.StepKeepsTheInvariant : Prop :=
  ∀ s t : State, s.Inv → step s = .next t → t.Inv

/-- No step from a state that meets the invariant faults or is refused: no failure of this hardware traps (R274). -/
def Obligations.InvariantStateAlwaysSteps : Prop :=
  ∀ s : State, s.Inv → SafeStep s

/-- HEADLINE. Every step keeps what the registers say of a completed operation: after a complete frame, CSUM_OK is the
verdict of the checksum function on the frame in RXBUF, though it was computed byte by byte (R158), and RESULT is the one
code this frame gives the operation (R230); after a failed search CNT is 31 and nothing is stored (R198, R263). In
measurement mode the checksum function, and with it the result under MEAS_STRICT, is the formula of log entry 8, which the
spec marks as general knowledge (R155). -/
def Obligations.StepKeepsTheOutcome : Prop :=
  ∀ s t : State, s.Inv → s.OutcomeInv → step s = .next t → t.OutcomeInv

/-- Every step keeps the Measurement whole: what the host can read as one is the decode of the frame that stands in RXBUF,
never of fields from two frames (R52, R174), with the temperature as a signed number. -/
def Obligations.MeasurementIsOfOneFrame : Prop :=
  ∀ s t : State, s.Inv → s.MeasurementInv → step s = .next t → t.MeasurementInv

/-- As long as the host issues only when the block is not busy, OVR stays 0 (R222, R300). -/
def Obligations.HostDutyKeepsOverrunClear : Prop :=
  ∀ s t : State, s.HostDutyKept → ((∃ w, s.nextEvent.1 = .issue w) → s.busy = false) → step s = .next t → t.HostDutyKept

/-! ## Whole-machine rules -/

/-- The transition graph (R44, R256): PHASE changes along these edges only, each by its own kind of step. -/
def Obligations.PhaseFollowsTheTransitionGraph : Prop :=
  ∀ s t : State, s.Inv → step s = .next t →
    t.phase = s.phase ∨
    ((∃ w, s.nextEvent.1 = .issue w) ∧ s.phase = .idle ∧ (t.phase = .tx ∨ t.phase = .search)) ∨
    (s.nextEvent.1 = .block ∧
      ((s.phase = .tx ∧ t.phase = .search) ∨ (s.phase = .search ∧ t.phase = .tail) ∨
        (s.phase = .search ∧ t.phase = .idle) ∨ (s.phase = .tail ∧ t.phase = .idle))) ∨
    (s.nextEvent.1 = .hwReset ∧ t.phase = .idle)

/-- The two streams, whatever the instruction and the state (R63, R64, R65, R71, R73): RXQ grows only at its end and only by
a DELIVER, loses only its first byte and only to the block in SEARCH or TAIL; TXLOG is never changed but for the byte at
TXIDX that a TXSTEP in phase TX appends. No step takes a byte and puts one. -/
def Obligations.StreamsMoveOneByteInOrder : Prop :=
  ∀ s t : State, step s = .next t →
    (t.rxq = s.rxq ∧ t.txlog = s.txlog) ∨
    (∃ b, s.nextEvent.1 = .deliver b ∧ t.rxq = s.rxq ++ [b] ∧ t.txlog = s.txlog) ∨
    (s.nextEvent.1 = .block ∧ (s.phase = .search ∨ s.phase = .tail) ∧ (∃ b, s.rxq = b :: t.rxq) ∧ t.txlog = s.txlog) ∨
    (s.nextEvent.1 = .block ∧ s.phase = .tx ∧ t.rxq = s.rxq ∧
      ∃ v, s.txFrame[s.txidx.toNat]? = some v ∧ t.txlog = s.txlog ++ [v])

/-- OVR is sticky (R25, R269): it becomes 1 only by an ISSUE while busy and 0 only by HWRESET. -/
def Obligations.OverrunMarkIsSticky : Prop :=
  ∀ s t : State, step s = .next t →
    (t.ovr = s.ovr) ∨ ((∃ w, s.nextEvent.1 = .issue w) ∧ s.busy = true ∧ t.ovr = true) ∨
    (s.nextEvent.1 = .hwReset ∧ t.ovr = false)

/-- DONE becomes 1 only by the completion of an operation (R231), which is one of three (R260): a refused code, the failed
search, or the last byte of a frame. -/
def Obligations.DoneOnlyByCompletion : Prop :=
  ∀ s t : State, s.done = false → step s = .next t → t.done = true →
    t.phase = .idle ∧ t.busy = false ∧
    (((∃ w, s.nextEvent.1 = .issue w) ∧ legalOp t.op = false ∧ t.result = 6) ∨
      (s.nextEvent.1 = .block ∧ s.phase = .search ∧ s.cnt = 30 ∧ t.cnt = 31 ∧ t.result = 1) ∨
      (s.nextEvent.1 = .block ∧ s.phase = .tail ∧ s.rxlen.toNat + 1 = s.lexp.toNat ∧ t.rxlen = s.lexp ∧
        t.csumOk = (s.acc == s.rxq.headD 0)))

/-- While DONE is 1 the outcome stands (R24): until the host issues again or resets, nothing the host can read changes,
neither the registers of R46 nor the record of R261 (two views, log entry 9). R24 says so of RESULT, CSUM_OK, RXLEN, RXBUF and
the outputs of the completed operation; that the other registers of the views stand as well is the model's inference, and
that a byte of RXBUF past RXLEN reads the same again is its choice (log entry 4). -/
def Obligations.CompletedOutcomeStands : Prop :=
  ∀ s t : State, s.Inv → s.done = true → (∀ w, s.nextEvent.1 ≠ .issue w) → s.nextEvent.1 ≠ .hwReset →
    step s = .next t → t.hostView = s.hostView ∧ t.resultRecord = s.resultRecord

/-- Who writes the output registers (R27, R28, R29, R31): the measurement registers only the completion of a measurement
operation, the version registers only the completion of GET_VERSION, and HWRESET both. -/
def Obligations.OutputRegistersHaveOneWriter : Prop :=
  ∀ s t : State, step s = .next t → s.nextEvent.1 ≠ .hwReset →
    ((t.dist = s.dist ∧ t.strength = s.strength ∧ t.temp = s.temp) ∨
      (s.nextEvent.1 = .block ∧ (s.op = 0x00 ∨ s.op = 0x04) ∧ (s.phase = .search ∨ s.phase = .tail) ∧ t.done = true)) ∧
    ((t.verPatch = s.verPatch ∧ t.verMinor = s.verMinor ∧ t.verMajor = s.verMajor) ∨
      (s.nextEvent.1 = .block ∧ s.op = 0x01 ∧ (s.phase = .search ∨ s.phase = .tail) ∧ t.done = true))

/-- The operation word is sampled once (R21, R22, R76): OP, ARG, MODE, LEXP, TXLEN and TXBUF change only by an accepted ISSUE
and by HWRESET. -/
def Obligations.OperationWordIsSampledOnce : Prop :=
  ∀ s t : State, step s = .next t → s.nextEvent.1 ≠ .hwReset → ((∃ w, s.nextEvent.1 = .issue w) → s.busy = true) →
    t.op = s.op ∧ t.arg = s.arg ∧ t.mode = s.mode ∧ t.lexp = s.lexp ∧ t.txlen = s.txlen ∧ t.txbuf = s.txbuf

/-- Starvation (R66, R281): with RXQ empty in SEARCH or TAIL, and no DELIVER and no HWRESET to come, the block waits for ever,
and only OVR can change. -/
def Obligations.StarvedOperationWaitsForever : Prop :=
  ∀ (n : Nat) (s : State), s.busy = true → (s.phase = .search ∨ s.phase = .tail) → s.rxq = [] →
    (∀ e ∈ s.env, e = .block ∨ ∃ w, e = .issue w) →
    ∃ ovr, Host.Core.run Sys2Proof.core n s = .next { s with env := s.env.drop n, ovr := ovr }

/-- When a byte is delivered does not matter (R65, R74): where a move of the block is enabled, a DELIVER right before it and
right after it lead to the same outcome. After a Timeout the output registers are free in each run (R272); that the two orders
leave the same values there is the model's choice (log entry 3: equal counters draw equal values). -/
def Obligations.DeliveryTimeDoesNotMatter : Prop :=
  ∀ (s : State) (b : Byte) (rest : List Event), s.blockMove ≠ .nothing →
    Host.Core.run Sys2Proof.core 2 { s with env := .block :: .deliver b :: rest } =
      Host.Core.run Sys2Proof.core 2 { s with env := .deliver b :: .block :: rest }

/-- No state carries meaning from one operation to the next (R49, R206): two states in which an ISSUE is accepted, with the
same pending bytes, the same parameter, the same events to come and the same count of free values drawn, run that operation
alike, step by step, whatever an earlier operation left in either. After a Timeout the output registers are free in each run
(R272); that the two runs agree there too is the model's choice (log entry 3: equal counters draw equal values). -/
def Obligations.NoStateCarriesOver : Prop :=
  ∀ (n : Nat) (s t s' t' : State) (w : OpWord) (rest : List Event),
    s.busy = false → t.busy = false → s.env = .issue w :: rest → t.env = s.env →
    t.rxq = s.rxq → t.measStrict = s.measStrict → t.freeCtr = s.freeCtr →
    Host.Core.run Sys2Proof.core (n + 1) s = .next s' → Host.Core.run Sys2Proof.core (n + 1) t = .next t' →
    SameOperation s' t'

/-! ## Whole operations -/

/-- The machine refines the pure outcome of an operation (R224, R230 to R251): issued while the block is not busy
and left to itself, an operation whose outcome on the pending bytes is `o` completes in at most 76 steps, with exactly that
result, frame, count, verdict and remaining stream, and with exactly its command frame sent. The verdict of a measurement
operation, and its result under MEAS_STRICT, rest on the formula of log entry 8, which the spec marks as general knowledge
(R155). -/
def Obligations.OperationRefinesItsOutcome : Prop :=
  ∀ (s : State) (op : Byte) (arg : Half) (o : OpOutcome),
    s.busy = false → s.env = [.issue (opWord op arg)] → operation op arg s.measStrict s.rxq = some o →
    ∃ (n : Nat) (t : State), n ≤ 76 ∧ Host.Core.run Sys2Proof.core n s = .next t ∧
      t.done = true ∧ t.busy = false ∧ t.phase = .idle ∧ t.op = op ∧ t.arg = arg ∧
      t.result = o.result.number ∧ t.cnt.toNat = o.cnt ∧ t.rxFrame = o.frame ∧ t.csumOk = o.csumOk ∧
      t.rxq = o.rest ∧ t.txlog = s.txlog ++ cmdFrame op arg ∧ t.ovr = s.ovr ∧
      (∀ m, modeOf op = .meas → mdec o.frame = .ok m →
        t.dist = m.dist ∧ t.strength = m.strength ∧ t.temp = BitVec.ofInt 16 m.temp) ∧
      (∀ f0 f1 f2 f3 f4 f5 f6, op = 0x01 → o.frame = [f0, f1, f2, f3, f4, f5, f6] →
        t.verPatch = f3 ∧ t.verMinor = f4 ∧ t.verMajor = f5)

/-- An operation whose bytes do not arrive never completes and never fails (R197, R281, R302): BUSY stays 1. -/
def Obligations.OperationWithoutItsBytesStaysBusy : Prop :=
  ∀ (n : Nat) (s : State) (op : Byte) (arg : Half),
    s.busy = false → s.env = [.issue (opWord op arg)] → operation op arg s.measStrict s.rxq = none →
    ∃ t, Host.Core.run Sys2Proof.core (n + 1) s = .next t ∧ t.busy = true ∧ t.done = false

/-! ## The frame readers -/

/-- The command-mode reader through garbage (R190, R191, R196, R201), for any L from 2 to 255: up to 30 bytes other than 0x5A are
skipped, then exactly `L - 1` bytes follow the header and the checksum of the frame decides between a good frame and a bad
checksum; with fewer bytes the reader waits; 31 bytes of garbage are the failure, the 31st is the last byte taken; L below 2
is MalformedFrame. -/
def Obligations.CommandReaderThroughGarbage : Prop :=
  ∀ (L : Nat) (g F rest : List Byte), (∀ b ∈ g, b ≠ 0x5A) →
    (2 ≤ L → L ≤ 255 → g.length ≤ 30 → F.length = L - 1 →
      readCmdFrame L (g ++ 0x5A :: F ++ rest) =
        .ok (if verifyRsp (0x5A :: F) = .ok true then .goodFrame g.length (0x5A :: F) rest
          else .badChecksum g.length (0x5A :: F) rest)) ∧
    (2 ≤ L → L ≤ 255 → g.length ≤ 30 → F.length < L - 1 → readCmdFrame L (g ++ 0x5A :: F) = .ok .starved) ∧
    (2 ≤ L → L ≤ 255 → g.length = 31 → readCmdFrame L (g ++ rest) = .ok (.notFound rest)) ∧
    (L < 2 → readCmdFrame L g = .error .malformedFrame)

/-- The measurement-mode search through garbage (R187 to R190, R194 to R196): garbage without two adjacent bytes 0x59, not
ending in one, and with at most 30 bytes other than 0x59, is skipped; the first pair 59 59 is the header. Garbage whose last byte is
its 31st byte other than 0x59 is the failure. -/
def Obligations.MeasurementReaderThroughGarbage : Prop :=
  ∀ g F rest : List Byte,
    g.IsChain (fun a b => ¬ (a = 0x59 ∧ b = 0x59)) → g.getLast? ≠ some 0x59 →
    ((g.filter (· != 0x59)).length ≤ 30 → F.length = 7 →
      readMeasFrame (g ++ 0x59 :: 0x59 :: F ++ rest) =
        .frame (g.filter (· != 0x59)).length (0x59 :: 0x59 :: F) rest) ∧
    ((g.filter (· != 0x59)).length = 31 → readMeasFrame (g ++ rest) = .notFound rest)

/-- How many bytes a reader takes (R199, R205): on a long enough stream it ends; with success after at most 30 + L bytes in
command mode and 69 in measurement mode; with failure after exactly 31, and after at most 62. -/
def Obligations.ReadersTakeBoundedBytes : Prop :=
  (∀ (L : Nat) (q : List Byte), 2 ≤ L →
    match readCmd L 0 q with
    | .starved => q.length < 30 + L
    | .notFound rest => q.length = 31 + rest.length
    | .frame cnt F rest => cnt ≤ 30 ∧ F.length = L ∧ q.length = cnt + L + rest.length) ∧
  (∀ q : List Byte,
    match readMeasFrame q with
    | .starved => q.length < 69
    | .notFound rest => 31 + rest.length ≤ q.length ∧ q.length ≤ 62 + rest.length
    | .frame cnt F rest =>
      cnt ≤ 30 ∧ F.length = 9 ∧ cnt + 9 + rest.length ≤ q.length ∧ q.length ≤ 2 * cnt + 9 + rest.length)

/-! ## The codec -/

/-- `ENCODE` (R130, R131, R132): the frame's length is `n + 4` and stands in its second byte, the code and the payload follow,
its last byte is the sum of all others; more than 251 payload bytes are MalformedFrame. -/
def Obligations.EncoderBuildsTheFrame : Prop :=
  ∀ (code : Byte) (payload : List Byte),
    (payload.length ≤ 251 → ∃ chk, encodeCommand code payload =
        .ok (0x5A :: BitVec.ofNat 8 (payload.length + 4) :: code :: (payload ++ [chk])) ∧
      chk.toNat = (0x5A + (payload.length + 4) + code.toNat + (payload.map BitVec.toNat).sum) % 256) ∧
    (251 < payload.length → encodeCommand code payload = .error .malformedFrame)

/-- Every encoded command frame passes the response check (R133). -/
def Obligations.EncodedFramesVerify : Prop :=
  ∀ (code : Byte) (payload F : List Byte), encodeCommand code payload = .ok F → verifyRsp F = .ok true

/-- `CMDFRAME(op, arg)` (R139): the bytes of each frame, and none for GET_MEASUREMENT and for a reserved code. -/
def Obligations.CommandFrameOfEachOperation : Prop :=
  ∀ (op : Byte) (arg : Half), cmdFrame op arg =
    if op = 0x01 then [0x5A, 0x04, 0x01, 0x5F]
    else if op = 0x02 then [0x5A, 0x04, 0x02, 0x60]
    else if op = 0x03 then
      [0x5A, 0x06, 0x03, BitVec.ofNat 8 (arg.toNat % 256), BitVec.ofNat 8 (arg.toNat / 256),
        BitVec.ofNat 8 (0x63 + arg.toNat % 256 + arg.toNat / 256)]
    else if op = 0x04 then [0x5A, 0x04, 0x04, 0x62]
    else if op = 0x11 then [0x5A, 0x04, 0x11, 0x6F]
    else []

/-- The laws of the sum (R150, R151): it is the sum modulo 256, byte by byte or at once, in any order. -/
def Obligations.ChecksumIsTheSumModulo256 : Prop :=
  (∀ S : List Byte, (sum8 S).toNat = (S.map BitVec.toNat).sum % 256) ∧
  (∀ (S : List Byte) (b : Byte), sum8 (S ++ [b]) = sum8 S + b) ∧
  (∀ S T : List Byte, S.Perm T → sum8 S = sum8 T)

/-- `VERIFY_RSP` (R152, R153): on at least two bytes it compares the last with the sum of 0x5A and those between, and does not
read the first; on fewer it is MalformedFrame. -/
def Obligations.ResponseCheckCountsTheHeaderOnce : Prop :=
  (∀ (f0 : Byte) (M : List Byte) (c : Byte),
    verifyRsp (f0 :: (M ++ [c])) = .ok (decide ((0x5A + (M.map BitVec.toNat).sum) % 256 = c.toNat))) ∧
  (∀ F : List Byte, F.length < 2 → verifyRsp F = .error .malformedFrame)

/-- A response frame that verifies, with exactly one byte after the first changed, does not verify (R154). -/
def Obligations.SingleByteChangeIsDetected : Prop :=
  ∀ (F : List Byte) (k : Nat) (b : Byte), verifyRsp F = .ok true → 1 ≤ k → k < F.length → F[k]? ≠ some b →
    verifyRsp (F.set k b) = .ok false

/-- The measurement parser (R165 to R171, R173): built from known values, a frame decodes to them, with the temperature
formula, whatever its checksum byte; every 9-byte frame decodes and no other does; the temperature is from -256 to 7935. -/
def Obligations.MeasurementRoundTrip : Prop :=
  (∀ (d st t : Half) (c : Byte),
    mdec [0x59, 0x59, lo8 d, hi8 d, lo8 st, hi8 st, lo8 t, hi8 t, c] =
      .ok { dist := d, strength := st, temp := (t.toNat / 8 : Nat) - 256 }) ∧
  (∀ F : List Byte, F.length ≠ 9 → mdec F = .error .malformedFrame) ∧
  (∀ F : List Byte, F.length = 9 → ∃ m, mdec F = .ok m ∧ -256 ≤ m.temp ∧ m.temp ≤ 7935 ∧
    (BitVec.ofInt 16 m.temp).toInt = m.temp)

/-! ## Results -/

/-- SET_FRAME_RATE succeeds on the exact echo and on nothing else; a response that differs from the command in one byte after
the header ends as ChecksumMismatch, not as UnexpectedResponse (R241). -/
def Obligations.OnlyTheExactEchoSucceeds : Prop :=
  ∀ (hz : Half) (strict : Bool) (F : List Byte), F.length = 6 →
    (judge 0x03 hz strict F = .success ↔ F = cmdFrame 0x03 hz) ∧
    (∀ (k : Nat) (b : Byte), 1 ≤ k → k < 6 → (cmdFrame 0x03 hz)[k]? ≠ some b → F = (cmdFrame 0x03 hz).set k b →
      judge 0x03 hz strict F = .checksumMismatch)

/-- What follows from the status literals (R250): SYSTEM_RESET and SAVE_SETTINGS succeed exactly on their success pair with
`(F[1] + F[2]) mod 256` equal to 0x06 and to 0x16; and a reset response that begins 5A 05 02 never succeeds. -/
def Obligations.StatusLiteralsAgainstTheChecksum : Prop :=
  ∀ (arg : Half) (strict : Bool) (r k st c : Byte),
    (judge 0x02 arg strict [0x5A, r, k, st, c] = .success ↔ st = 0x00 ∧ c = 0x60 ∧ (r.toNat + k.toNat) % 256 = 0x06) ∧
    (judge 0x02 arg strict [0x5A, r, k, st, c] = .deviceFailure ↔
      st = 0x01 ∧ c = 0x61 ∧ (r.toNat + k.toNat) % 256 = 0x06) ∧
    (judge 0x11 arg strict [0x5A, r, k, st, c] = .success ↔ st = 0x00 ∧ c = 0x70 ∧ (r.toNat + k.toNat) % 256 = 0x16) ∧
    (judge 0x11 arg strict [0x5A, r, k, st, c] = .deviceFailure ↔
      st = 0x01 ∧ c = 0x71 ∧ (r.toNat + k.toNat) % 256 = 0x16) ∧
    judge 0x02 arg strict [0x5A, 0x05, 0x02, st, c] ≠ .success ∧
    judge 0x02 arg strict [0x5A, 0x05, 0x02, 0x00, 0x61] = .unexpectedResponse

/-- `READ_CMD_FRAME` decides the four command-mode operations, in its order of priority (R201, R270): no header within the
budget is Timeout; a bad checksum is ChecksumMismatch, whatever the content; on a good frame the response decoder gives
Success, UnexpectedResponse or DeviceFailure; without enough bytes the operation has no outcome. -/
def Obligations.CommandReaderDecidesTheOperation : Prop :=
  ∀ (op : Byte) (arg : Half) (strict : Bool) (q : List Byte), op ∈ ([0x01, 0x02, 0x03, 0x11] : List Byte) →
    ∃ r, readCmdFrame (lexpOf op).toNat q = .ok r ∧
      match r with
      | .starved => operation op arg strict q = none
      | .notFound rest => r.failure = some .timeout ∧
        operation op arg strict q = some { result := .timeout, cnt := 31, frame := [], csumOk := false, rest := rest }
      | .badChecksum cnt F rest => r.failure = some .checksumMismatch ∧
        operation op arg strict q =
          some { result := .checksumMismatch, cnt := cnt, frame := F, csumOk := false, rest := rest }
      | .goodFrame cnt F rest => r.failure = none ∧
        ∃ code ∈ [ResultCode.success, .unexpectedResponse, .deviceFailure],
          operation op arg strict q = some { result := code, cnt := cnt, frame := F, csumOk := true, rest := rest }
end

