-- ==== Sys2Proof/Laws/Operands.lean ====
section
/-! SUPPORT. Lemmas about operands, sums and buffers: byte order and the fields of the operation word, the temperature
formula, the checksum, what a buffer holds after a load or a store. -/

namespace Sys2Proof.Machine

/-! ## The operation word -/

@[simp] theorem opOf_opWord (op : Byte) (arg : Half) : opOf (opWord op arg) = op := by
  show BitVec.extractLsb' 16 8 (op ++ arg : BitVec (8 + 16)) = op
  ext i hi
  simp only [BitVec.getElem_extractLsb', BitVec.getLsbD_append, show ¬(16 + i < 16) from by omega, ↓reduceIte,
    Nat.add_sub_cancel_left, BitVec.getLsbD_eq_getElem hi]

@[simp] theorem argOf_opWord (op : Byte) (arg : Half) : argOf (opWord op arg) = arg := by
  show BitVec.extractLsb' 0 16 (op ++ arg : BitVec (8 + 16)) = arg
  ext i hi
  simp only [BitVec.getElem_extractLsb', BitVec.getLsbD_append, Nat.zero_add, hi, ↓reduceIte, BitVec.getLsbD_eq_getElem hi]

@[simp] theorem opWord_opOf_argOf (w : OpWord) : opWord (opOf w) (argOf w) = w := by
  show (BitVec.extractLsb' 16 8 w ++ BitVec.extractLsb' 0 16 w : BitVec (8 + 16)) = w
  ext i hi
  simp only [BitVec.getElem_append, BitVec.getElem_extractLsb']
  split
  · simp; rfl
  · rw [show 16 + (i - 16) = i from by omega]; rfl

/-! ## Byte order and the temperature -/

theorem le16_toNat (lo hi : Byte) : (le16 lo hi).toNat = lo.toNat + 256 * hi.toNat := by
  simp only [le16, BitVec.toNat_ofNat]
  omega

theorem lo8_eq_extract (v : Half) : lo8 v = v.extractLsb' 0 8 := by
  apply BitVec.eq_of_toNat_eq; simp [lo8]

theorem hi8_eq_extract (v : Half) : hi8 v = v.extractLsb' 8 8 := by
  apply BitVec.eq_of_toNat_eq; simp [hi8, Nat.shiftRight_eq_div_pow]

@[simp] theorem le16_lo8_hi8 (v : Half) : le16 (lo8 v) (hi8 v) = v := by
  apply BitVec.eq_of_toNat_eq
  rw [le16_toNat]
  simp only [lo8, hi8, BitVec.toNat_ofNat]
  omega

theorem temperature_eq (raw : Half) : temperature raw = (raw.toNat / 8 : Nat) - 256 := by
  simp only [temperature, tdiv, Config.tempDiv, Config.tempOffset]
  rw [if_pos (by omega)]
  omega

/-! ## The sum -/

@[simp] theorem sum8_nil : sum8 [] = 0 := rfl

@[simp] theorem sum8_cons (b : Byte) (S : List Byte) : sum8 (b :: S) = b + sum8 S := rfl

@[simp] theorem sum8_append (S T : List Byte) : sum8 (S ++ T) = sum8 S + sum8 T := by
  induction S with
  | nil => simp
  | cons b S ih => simp [ih, BitVec.add_assoc]

/-- Changing one byte changes the sum by the difference. -/
theorem sum8_set (S : List Byte) (k : Nat) (b : Byte) (h : k < S.length) :
    sum8 (S.set k b) + S[k] = sum8 S + b := by
  induction S generalizing k with
  | nil => cases h
  | cons a S ih =>
    cases k with
    | zero => simp only [List.set_cons_zero, sum8_cons, List.getElem_cons_zero]; bv_omega
    | succ k =>
      have := ih k (by simpa using h)
      simp only [List.set_cons_succ, sum8_cons, List.getElem_cons_succ]
      bv_omega

/-! ## The transmit buffer -/

@[simp] theorem loadTx_nil (v : Vector Byte 6) : loadTx [] v = v := by
  ext i hi; simp [loadTx]

theorem loadTx_four (a b c d : Byte) (v : Vector Byte 6) : loadTx [a, b, c, d] v = #v[a, b, c, d, v[4], v[5]] := by
  ext i hi
  match i, hi with
  | 0, _ | 1, _ | 2, _ | 3, _ | 4, _ | 5, _ => simp [loadTx]

theorem loadTx_six (a b c d e f : Byte) (v : Vector Byte 6) : loadTx [a, b, c, d, e, f] v = #v[a, b, c, d, e, f] := by
  ext i hi
  match i, hi with
  | 0, _ | 1, _ | 2, _ | 3, _ | 4, _ | 5, _ => simp [loadTx]

/-- A loaded frame stands at the front of the buffer. -/
theorem take_loadTx (F : List Byte) (v : Vector Byte 6) (h : F.length ≤ 6) :
    (loadTx F v).toList.take F.length = F := by
  apply List.ext_getElem
  · simp; omega
  · intro i h1 h2
    simp [loadTx, h2]

/-! ## The receive buffer -/

theorem setIfInBounds_eq_set {n : Nat} (v : Vector Byte n) (k : Nat) (b : Byte) (h : k < n) :
    v.setIfInBounds k b = v.set k b h := by
  ext i hi; simp [Vector.getElem_setIfInBounds, Vector.getElem_set]

/-- Storing a byte at an index in the buffer lengthens what stands before it by that byte. -/
theorem take_succ_setIfInBounds {n : Nat} (v : Vector Byte n) (k : Nat) (b : Byte) (h : k < n) :
    (v.setIfInBounds k b).toList.take (k + 1) = v.toList.take k ++ [b] := by
  apply List.ext_getElem
  · simp; omega
  · intro i h1 h2
    simp only [List.getElem_take, Vector.getElem_toList, Vector.getElem_setIfInBounds, List.getElem_append,
      List.length_take, Vector.length_toList, List.getElem_singleton]
    simp at h1
    by_cases hik : i = k
    · subst hik; simp
    · have : i < min k n := by omega
      simp [this, Ne.symm hik]

theorem take_set_first {n : Nat} (v : Vector Byte n) (a : Byte) (h : 0 < n) :
    (v.set 0 a h).toList.take 1 = [a] := by
  apply List.ext_getElem
  · simp; omega
  · intro i h1 h2
    obtain rfl : i = 0 := by simpa using h2
    simp

theorem take_set_two {n : Nat} (v : Vector Byte n) (a b : Byte) (h : 1 < n) :
    ((v.set 0 a).set 1 b).toList.take 2 = [a, b] := by
  apply List.ext_getElem
  · simp; omega
  · intro i h1 h2
    match i, h2 with
    | 0, _ | 1, _ => simp

end Sys2Proof.Machine
end

