-- ==== Sys2Proof/Laws/Codec.lean ====
section
/-! SUPPORT. The bytes of the command frames, and one lemma per table function of an operation code. -/

namespace Sys2Proof.Machine

theorem cmdFrameRateFrame_eq (hz : Half) :
    cmdFrameRateFrame hz = [0x5A, 0x06, 0x03, lo8 hz, hi8 hz, 0x63 + lo8 hz + hi8 hz] := by
  simp only [cmdFrameRateFrame, commandFrame, Config.hdrCmd, Config.codeFrameRate, List.length_cons, List.length_nil,
    List.cons_append, List.nil_append, sum8_cons, sum8_nil]
  generalize lo8 hz = a
  generalize hi8 hz = b
  have : (90#8 + ((BitVec.ofNat 8 (0 + 1 + 1 + 4)) + (3#8 + (a + (b + 0#8))))) = 99#8 + a + b := by bv_omega
  simpa using this

/-- `CMDFRAME(op, arg)` byte by byte (R139). -/
theorem cmdFrame_eq (op : Byte) (arg : Half) :
    cmdFrame op arg =
      if op = 0x01 then [0x5A, 0x04, 0x01, 0x5F]
      else if op = 0x02 then [0x5A, 0x04, 0x02, 0x60]
      else if op = 0x03 then [0x5A, 0x06, 0x03, lo8 arg, hi8 arg, 0x63 + lo8 arg + hi8 arg]
      else if op = 0x04 then [0x5A, 0x04, 0x04, 0x62]
      else if op = 0x11 then [0x5A, 0x04, 0x11, 0x6F]
      else [] := by
  rw [← cmdFrameRateFrame_eq]
  rfl

theorem cmdFrame_length_le (op : Byte) (arg : Half) : (cmdFrame op arg).length ≤ 6 := by
  rw [cmdFrame_eq]
  (repeat' split) <;> simp

/-- The legal codes, one by one (R91). -/
theorem legalOp_iff (op : Byte) :
    legalOp op = true ↔ op = 0x00 ∨ op = 0x01 ∨ op = 0x02 ∨ op = 0x03 ∨ op = 0x04 ∨ op = 0x11 := by
  simp only [legalOp, Bool.or_eq_true, decide_eq_true_eq, or_assoc]
  rfl

/-- A code outside the six has no frame (R221, R229). -/
theorem cmdFrame_of_not_legal {op : Byte} (arg : Half) (h : legalOp op = false) : cmdFrame op arg = [] := by
  have h' : ¬ legalOp op = true := by simp [h]
  simp only [legalOp_iff, not_or] at h'
  simp only [cmdFrame_eq, h', if_false]

/-- The kind of header, by the code (R38). -/
theorem modeOf_eq (op : Byte) : modeOf op = if op = 0x00 ∨ op = 0x04 then .meas else .cmd := rfl

/-- The length of the frame read, by the code (R41). -/
theorem lexpOf_eq (op : Byte) :
    lexpOf op = if op = 0x00 ∨ op = 0x04 then 9 else if op = 0x01 then 7 else if op = 0x03 then 6
      else if op = 0x02 ∨ op = 0x11 then 5 else 0 := rfl

theorem modeOf_of_not_legal {op : Byte} (h : legalOp op = false) : modeOf op = .cmd := by
  have h' : ¬ legalOp op = true := by simp [h]
  simp only [legalOp_iff, not_or] at h'
  simp only [modeOf_eq, h', or_self, if_false]

theorem lexpOf_of_not_legal {op : Byte} (h : legalOp op = false) : lexpOf op = 0 := by
  have h' : ¬ legalOp op = true := by simp [h]
  simp only [legalOp_iff, not_or] at h'
  simp only [lexpOf_eq, h', or_self, if_false]

theorem lexpOf_le (op : Byte) : (lexpOf op).toNat ≤ 9 := by
  rw [lexpOf_eq]
  (repeat' split) <;> simp

/-- The verdict of the response check on a frame given with its last byte apart (R152). -/
theorem verifyRsp_append (f0 : Byte) (M : List Byte) (c : Byte) :
    verifyRsp (f0 :: (M ++ [c])) = .ok (sum8 (Config.hdrCmd :: M) == c) := by
  cases M with
  | nil => rfl
  | cons b M =>
    show Except.ok (sum8 (Config.hdrCmd :: ((b :: M) ++ [c]).dropLast) == ((b :: M) ++ [c]).getLast _) = _
    rw [List.dropLast_concat, List.getLast_concat]

end Sys2Proof.Machine
end

