-- ==== Sys2Proof/Laws/State.lean ====
section
/-! SUPPORT. One lemma per field per named update of State: what the update writes, and what it leaves. -/

namespace Sys2Proof.Machine

variable (s : State)

/-! ## `RxTake()` (R63) -/

@[simp] theorem State.takeByte_op : s.takeByte.op = s.op := rfl
@[simp] theorem State.takeByte_arg : s.takeByte.arg = s.arg := rfl
@[simp] theorem State.takeByte_busy : s.takeByte.busy = s.busy := rfl
@[simp] theorem State.takeByte_done : s.takeByte.done = s.done := rfl
@[simp] theorem State.takeByte_ovr : s.takeByte.ovr = s.ovr := rfl
@[simp] theorem State.takeByte_result : s.takeByte.result = s.result := rfl
@[simp] theorem State.takeByte_dist : s.takeByte.dist = s.dist := rfl
@[simp] theorem State.takeByte_strength : s.takeByte.strength = s.strength := rfl
@[simp] theorem State.takeByte_temp : s.takeByte.temp = s.temp := rfl
@[simp] theorem State.takeByte_csumOk : s.takeByte.csumOk = s.csumOk := rfl
@[simp] theorem State.takeByte_verPatch : s.takeByte.verPatch = s.verPatch := rfl
@[simp] theorem State.takeByte_verMinor : s.takeByte.verMinor = s.verMinor := rfl
@[simp] theorem State.takeByte_verMajor : s.takeByte.verMajor = s.verMajor := rfl
@[simp] theorem State.takeByte_rxbuf : s.takeByte.rxbuf = s.rxbuf := rfl
@[simp] theorem State.takeByte_rxlen : s.takeByte.rxlen = s.rxlen := rfl
@[simp] theorem State.takeByte_txbuf : s.takeByte.txbuf = s.txbuf := rfl
@[simp] theorem State.takeByte_txlen : s.takeByte.txlen = s.txlen := rfl
@[simp] theorem State.takeByte_txidx : s.takeByte.txidx = s.txidx := rfl
@[simp] theorem State.takeByte_phase : s.takeByte.phase = s.phase := rfl
@[simp] theorem State.takeByte_mode : s.takeByte.mode = s.mode := rfl
@[simp] theorem State.takeByte_cnt : s.takeByte.cnt = s.cnt := rfl
@[simp] theorem State.takeByte_prev59 : s.takeByte.prev59 = s.prev59 := rfl
@[simp] theorem State.takeByte_lexp : s.takeByte.lexp = s.lexp := rfl
@[simp] theorem State.takeByte_acc : s.takeByte.acc = s.acc := rfl
@[simp] theorem State.takeByte_rxq : s.takeByte.rxq = s.rxq.tail := rfl
@[simp] theorem State.takeByte_txlog : s.takeByte.txlog = s.txlog := rfl
@[simp] theorem State.takeByte_measStrict : s.takeByte.measStrict = s.measStrict := rfl
@[simp] theorem State.takeByte_env : s.takeByte.env = s.env := rfl
@[simp] theorem State.takeByte_freeCtr : s.takeByte.freeCtr = s.freeCtr := rfl

/-! ## `TxPut(v)` (R64) -/

@[simp] theorem State.putByte_op (v : Byte) : (s.putByte v).op = s.op := rfl
@[simp] theorem State.putByte_arg (v : Byte) : (s.putByte v).arg = s.arg := rfl
@[simp] theorem State.putByte_busy (v : Byte) : (s.putByte v).busy = s.busy := rfl
@[simp] theorem State.putByte_done (v : Byte) : (s.putByte v).done = s.done := rfl
@[simp] theorem State.putByte_ovr (v : Byte) : (s.putByte v).ovr = s.ovr := rfl
@[simp] theorem State.putByte_result (v : Byte) : (s.putByte v).result = s.result := rfl
@[simp] theorem State.putByte_dist (v : Byte) : (s.putByte v).dist = s.dist := rfl
@[simp] theorem State.putByte_strength (v : Byte) : (s.putByte v).strength = s.strength := rfl
@[simp] theorem State.putByte_temp (v : Byte) : (s.putByte v).temp = s.temp := rfl
@[simp] theorem State.putByte_csumOk (v : Byte) : (s.putByte v).csumOk = s.csumOk := rfl
@[simp] theorem State.putByte_verPatch (v : Byte) : (s.putByte v).verPatch = s.verPatch := rfl
@[simp] theorem State.putByte_verMinor (v : Byte) : (s.putByte v).verMinor = s.verMinor := rfl
@[simp] theorem State.putByte_verMajor (v : Byte) : (s.putByte v).verMajor = s.verMajor := rfl
@[simp] theorem State.putByte_rxbuf (v : Byte) : (s.putByte v).rxbuf = s.rxbuf := rfl
@[simp] theorem State.putByte_rxlen (v : Byte) : (s.putByte v).rxlen = s.rxlen := rfl
@[simp] theorem State.putByte_txbuf (v : Byte) : (s.putByte v).txbuf = s.txbuf := rfl
@[simp] theorem State.putByte_txlen (v : Byte) : (s.putByte v).txlen = s.txlen := rfl
@[simp] theorem State.putByte_txidx (v : Byte) : (s.putByte v).txidx = s.txidx := rfl
@[simp] theorem State.putByte_phase (v : Byte) : (s.putByte v).phase = s.phase := rfl
@[simp] theorem State.putByte_mode (v : Byte) : (s.putByte v).mode = s.mode := rfl
@[simp] theorem State.putByte_cnt (v : Byte) : (s.putByte v).cnt = s.cnt := rfl
@[simp] theorem State.putByte_prev59 (v : Byte) : (s.putByte v).prev59 = s.prev59 := rfl
@[simp] theorem State.putByte_lexp (v : Byte) : (s.putByte v).lexp = s.lexp := rfl
@[simp] theorem State.putByte_acc (v : Byte) : (s.putByte v).acc = s.acc := rfl
@[simp] theorem State.putByte_rxq (v : Byte) : (s.putByte v).rxq = s.rxq := rfl
@[simp] theorem State.putByte_txlog (v : Byte) : (s.putByte v).txlog = s.txlog ++ [v] := rfl
@[simp] theorem State.putByte_measStrict (v : Byte) : (s.putByte v).measStrict = s.measStrict := rfl
@[simp] theorem State.putByte_env (v : Byte) : (s.putByte v).env = s.env := rfl
@[simp] theorem State.putByte_freeCtr (v : Byte) : (s.putByte v).freeCtr = s.freeCtr := rfl

/-! ## DELIVER (R65) -/

@[simp] theorem State.deliver_op (b : Byte) : (s.deliver b).op = s.op := rfl
@[simp] theorem State.deliver_arg (b : Byte) : (s.deliver b).arg = s.arg := rfl
@[simp] theorem State.deliver_busy (b : Byte) : (s.deliver b).busy = s.busy := rfl
@[simp] theorem State.deliver_done (b : Byte) : (s.deliver b).done = s.done := rfl
@[simp] theorem State.deliver_ovr (b : Byte) : (s.deliver b).ovr = s.ovr := rfl
@[simp] theorem State.deliver_result (b : Byte) : (s.deliver b).result = s.result := rfl
@[simp] theorem State.deliver_dist (b : Byte) : (s.deliver b).dist = s.dist := rfl
@[simp] theorem State.deliver_strength (b : Byte) : (s.deliver b).strength = s.strength := rfl
@[simp] theorem State.deliver_temp (b : Byte) : (s.deliver b).temp = s.temp := rfl
@[simp] theorem State.deliver_csumOk (b : Byte) : (s.deliver b).csumOk = s.csumOk := rfl
@[simp] theorem State.deliver_verPatch (b : Byte) : (s.deliver b).verPatch = s.verPatch := rfl
@[simp] theorem State.deliver_verMinor (b : Byte) : (s.deliver b).verMinor = s.verMinor := rfl
@[simp] theorem State.deliver_verMajor (b : Byte) : (s.deliver b).verMajor = s.verMajor := rfl
@[simp] theorem State.deliver_rxbuf (b : Byte) : (s.deliver b).rxbuf = s.rxbuf := rfl
@[simp] theorem State.deliver_rxlen (b : Byte) : (s.deliver b).rxlen = s.rxlen := rfl
@[simp] theorem State.deliver_txbuf (b : Byte) : (s.deliver b).txbuf = s.txbuf := rfl
@[simp] theorem State.deliver_txlen (b : Byte) : (s.deliver b).txlen = s.txlen := rfl
@[simp] theorem State.deliver_txidx (b : Byte) : (s.deliver b).txidx = s.txidx := rfl
@[simp] theorem State.deliver_phase (b : Byte) : (s.deliver b).phase = s.phase := rfl
@[simp] theorem State.deliver_mode (b : Byte) : (s.deliver b).mode = s.mode := rfl
@[simp] theorem State.deliver_cnt (b : Byte) : (s.deliver b).cnt = s.cnt := rfl
@[simp] theorem State.deliver_prev59 (b : Byte) : (s.deliver b).prev59 = s.prev59 := rfl
@[simp] theorem State.deliver_lexp (b : Byte) : (s.deliver b).lexp = s.lexp := rfl
@[simp] theorem State.deliver_acc (b : Byte) : (s.deliver b).acc = s.acc := rfl
@[simp] theorem State.deliver_rxq (b : Byte) : (s.deliver b).rxq = s.rxq ++ [b] := rfl
@[simp] theorem State.deliver_txlog (b : Byte) : (s.deliver b).txlog = s.txlog := rfl
@[simp] theorem State.deliver_measStrict (b : Byte) : (s.deliver b).measStrict = s.measStrict := rfl
@[simp] theorem State.deliver_env (b : Byte) : (s.deliver b).env = s.env := rfl
@[simp] theorem State.deliver_freeCtr (b : Byte) : (s.deliver b).freeCtr = s.freeCtr := rfl

/-! ## `complete(code)` (R231) -/

@[simp] theorem State.complete_op (code : ResultCode) : (s.complete code).op = s.op := rfl
@[simp] theorem State.complete_arg (code : ResultCode) : (s.complete code).arg = s.arg := rfl
@[simp] theorem State.complete_busy (code : ResultCode) : (s.complete code).busy = false := rfl
@[simp] theorem State.complete_done (code : ResultCode) : (s.complete code).done = true := rfl
@[simp] theorem State.complete_ovr (code : ResultCode) : (s.complete code).ovr = s.ovr := rfl
@[simp] theorem State.complete_result (code : ResultCode) : (s.complete code).result = code.number := rfl
@[simp] theorem State.complete_dist (code : ResultCode) : (s.complete code).dist = s.dist := rfl
@[simp] theorem State.complete_strength (code : ResultCode) : (s.complete code).strength = s.strength := rfl
@[simp] theorem State.complete_temp (code : ResultCode) : (s.complete code).temp = s.temp := rfl
@[simp] theorem State.complete_csumOk (code : ResultCode) : (s.complete code).csumOk = s.csumOk := rfl
@[simp] theorem State.complete_verPatch (code : ResultCode) : (s.complete code).verPatch = s.verPatch := rfl
@[simp] theorem State.complete_verMinor (code : ResultCode) : (s.complete code).verMinor = s.verMinor := rfl
@[simp] theorem State.complete_verMajor (code : ResultCode) : (s.complete code).verMajor = s.verMajor := rfl
@[simp] theorem State.complete_rxbuf (code : ResultCode) : (s.complete code).rxbuf = s.rxbuf := rfl
@[simp] theorem State.complete_rxlen (code : ResultCode) : (s.complete code).rxlen = s.rxlen := rfl
@[simp] theorem State.complete_txbuf (code : ResultCode) : (s.complete code).txbuf = s.txbuf := rfl
@[simp] theorem State.complete_txlen (code : ResultCode) : (s.complete code).txlen = s.txlen := rfl
@[simp] theorem State.complete_txidx (code : ResultCode) : (s.complete code).txidx = s.txidx := rfl
@[simp] theorem State.complete_phase (code : ResultCode) : (s.complete code).phase = .idle := rfl
@[simp] theorem State.complete_mode (code : ResultCode) : (s.complete code).mode = s.mode := rfl
@[simp] theorem State.complete_cnt (code : ResultCode) : (s.complete code).cnt = s.cnt := rfl
@[simp] theorem State.complete_prev59 (code : ResultCode) : (s.complete code).prev59 = s.prev59 := rfl
@[simp] theorem State.complete_lexp (code : ResultCode) : (s.complete code).lexp = s.lexp := rfl
@[simp] theorem State.complete_acc (code : ResultCode) : (s.complete code).acc = s.acc := rfl
@[simp] theorem State.complete_rxq (code : ResultCode) : (s.complete code).rxq = s.rxq := rfl
@[simp] theorem State.complete_txlog (code : ResultCode) : (s.complete code).txlog = s.txlog := rfl
@[simp] theorem State.complete_measStrict (code : ResultCode) : (s.complete code).measStrict = s.measStrict := rfl
@[simp] theorem State.complete_env (code : ResultCode) : (s.complete code).env = s.env := rfl
@[simp] theorem State.complete_freeCtr (code : ResultCode) : (s.complete code).freeCtr = s.freeCtr := rfl

/-! ## free values in the measurement registers (R272) -/

@[simp] theorem State.freeMeasurement_op : s.freeMeasurement.op = s.op := rfl
@[simp] theorem State.freeMeasurement_arg : s.freeMeasurement.arg = s.arg := rfl
@[simp] theorem State.freeMeasurement_busy : s.freeMeasurement.busy = s.busy := rfl
@[simp] theorem State.freeMeasurement_done : s.freeMeasurement.done = s.done := rfl
@[simp] theorem State.freeMeasurement_ovr : s.freeMeasurement.ovr = s.ovr := rfl
@[simp] theorem State.freeMeasurement_result : s.freeMeasurement.result = s.result := rfl
@[simp] theorem State.freeMeasurement_dist : s.freeMeasurement.dist = Config.freeHalf s.freeCtr := rfl
@[simp] theorem State.freeMeasurement_strength : s.freeMeasurement.strength = Config.freeHalf (s.freeCtr + 1) := rfl
@[simp] theorem State.freeMeasurement_temp : s.freeMeasurement.temp = Config.freeHalf (s.freeCtr + 2) := rfl
@[simp] theorem State.freeMeasurement_csumOk : s.freeMeasurement.csumOk = s.csumOk := rfl
@[simp] theorem State.freeMeasurement_verPatch : s.freeMeasurement.verPatch = s.verPatch := rfl
@[simp] theorem State.freeMeasurement_verMinor : s.freeMeasurement.verMinor = s.verMinor := rfl
@[simp] theorem State.freeMeasurement_verMajor : s.freeMeasurement.verMajor = s.verMajor := rfl
@[simp] theorem State.freeMeasurement_rxbuf : s.freeMeasurement.rxbuf = s.rxbuf := rfl
@[simp] theorem State.freeMeasurement_rxlen : s.freeMeasurement.rxlen = s.rxlen := rfl
@[simp] theorem State.freeMeasurement_txbuf : s.freeMeasurement.txbuf = s.txbuf := rfl
@[simp] theorem State.freeMeasurement_txlen : s.freeMeasurement.txlen = s.txlen := rfl
@[simp] theorem State.freeMeasurement_txidx : s.freeMeasurement.txidx = s.txidx := rfl
@[simp] theorem State.freeMeasurement_phase : s.freeMeasurement.phase = s.phase := rfl
@[simp] theorem State.freeMeasurement_mode : s.freeMeasurement.mode = s.mode := rfl
@[simp] theorem State.freeMeasurement_cnt : s.freeMeasurement.cnt = s.cnt := rfl
@[simp] theorem State.freeMeasurement_prev59 : s.freeMeasurement.prev59 = s.prev59 := rfl
@[simp] theorem State.freeMeasurement_lexp : s.freeMeasurement.lexp = s.lexp := rfl
@[simp] theorem State.freeMeasurement_acc : s.freeMeasurement.acc = s.acc := rfl
@[simp] theorem State.freeMeasurement_rxq : s.freeMeasurement.rxq = s.rxq := rfl
@[simp] theorem State.freeMeasurement_txlog : s.freeMeasurement.txlog = s.txlog := rfl
@[simp] theorem State.freeMeasurement_measStrict : s.freeMeasurement.measStrict = s.measStrict := rfl
@[simp] theorem State.freeMeasurement_env : s.freeMeasurement.env = s.env := rfl
@[simp] theorem State.freeMeasurement_freeCtr : s.freeMeasurement.freeCtr = s.freeCtr + 3 := rfl

/-! ## free values in the version registers (R272) -/

@[simp] theorem State.freeVersion_op : s.freeVersion.op = s.op := rfl
@[simp] theorem State.freeVersion_arg : s.freeVersion.arg = s.arg := rfl
@[simp] theorem State.freeVersion_busy : s.freeVersion.busy = s.busy := rfl
@[simp] theorem State.freeVersion_done : s.freeVersion.done = s.done := rfl
@[simp] theorem State.freeVersion_ovr : s.freeVersion.ovr = s.ovr := rfl
@[simp] theorem State.freeVersion_result : s.freeVersion.result = s.result := rfl
@[simp] theorem State.freeVersion_dist : s.freeVersion.dist = s.dist := rfl
@[simp] theorem State.freeVersion_strength : s.freeVersion.strength = s.strength := rfl
@[simp] theorem State.freeVersion_temp : s.freeVersion.temp = s.temp := rfl
@[simp] theorem State.freeVersion_csumOk : s.freeVersion.csumOk = s.csumOk := rfl
@[simp] theorem State.freeVersion_verPatch : s.freeVersion.verPatch = Config.freeByte s.freeCtr := rfl
@[simp] theorem State.freeVersion_verMinor : s.freeVersion.verMinor = Config.freeByte (s.freeCtr + 1) := rfl
@[simp] theorem State.freeVersion_verMajor : s.freeVersion.verMajor = Config.freeByte (s.freeCtr + 2) := rfl
@[simp] theorem State.freeVersion_rxbuf : s.freeVersion.rxbuf = s.rxbuf := rfl
@[simp] theorem State.freeVersion_rxlen : s.freeVersion.rxlen = s.rxlen := rfl
@[simp] theorem State.freeVersion_txbuf : s.freeVersion.txbuf = s.txbuf := rfl
@[simp] theorem State.freeVersion_txlen : s.freeVersion.txlen = s.txlen := rfl
@[simp] theorem State.freeVersion_txidx : s.freeVersion.txidx = s.txidx := rfl
@[simp] theorem State.freeVersion_phase : s.freeVersion.phase = s.phase := rfl
@[simp] theorem State.freeVersion_mode : s.freeVersion.mode = s.mode := rfl
@[simp] theorem State.freeVersion_cnt : s.freeVersion.cnt = s.cnt := rfl
@[simp] theorem State.freeVersion_prev59 : s.freeVersion.prev59 = s.prev59 := rfl
@[simp] theorem State.freeVersion_lexp : s.freeVersion.lexp = s.lexp := rfl
@[simp] theorem State.freeVersion_acc : s.freeVersion.acc = s.acc := rfl
@[simp] theorem State.freeVersion_rxq : s.freeVersion.rxq = s.rxq := rfl
@[simp] theorem State.freeVersion_txlog : s.freeVersion.txlog = s.txlog := rfl
@[simp] theorem State.freeVersion_measStrict : s.freeVersion.measStrict = s.measStrict := rfl
@[simp] theorem State.freeVersion_env : s.freeVersion.env = s.env := rfl
@[simp] theorem State.freeVersion_freeCtr : s.freeVersion.freeCtr = s.freeCtr + 3 := rfl

/-! ## the registers an accepted ISSUE writes (R221) -/

@[simp] theorem State.latch_op (code : Byte) (a : Half) : (s.latch code a).op = code := rfl
@[simp] theorem State.latch_arg (code : Byte) (a : Half) : (s.latch code a).arg = a := rfl
@[simp] theorem State.latch_busy (code : Byte) (a : Half) : (s.latch code a).busy = s.busy := rfl
@[simp] theorem State.latch_done (code : Byte) (a : Half) : (s.latch code a).done = false := rfl
@[simp] theorem State.latch_ovr (code : Byte) (a : Half) : (s.latch code a).ovr = s.ovr := rfl
@[simp] theorem State.latch_result (code : Byte) (a : Half) : (s.latch code a).result = s.result := rfl
@[simp] theorem State.latch_dist (code : Byte) (a : Half) : (s.latch code a).dist = s.dist := rfl
@[simp] theorem State.latch_strength (code : Byte) (a : Half) : (s.latch code a).strength = s.strength := rfl
@[simp] theorem State.latch_temp (code : Byte) (a : Half) : (s.latch code a).temp = s.temp := rfl
@[simp] theorem State.latch_csumOk (code : Byte) (a : Half) : (s.latch code a).csumOk = false := rfl
@[simp] theorem State.latch_verPatch (code : Byte) (a : Half) : (s.latch code a).verPatch = s.verPatch := rfl
@[simp] theorem State.latch_verMinor (code : Byte) (a : Half) : (s.latch code a).verMinor = s.verMinor := rfl
@[simp] theorem State.latch_verMajor (code : Byte) (a : Half) : (s.latch code a).verMajor = s.verMajor := rfl
@[simp] theorem State.latch_rxbuf (code : Byte) (a : Half) : (s.latch code a).rxbuf = s.rxbuf := rfl
@[simp] theorem State.latch_rxlen (code : Byte) (a : Half) : (s.latch code a).rxlen = 0 := rfl
@[simp] theorem State.latch_txbuf (code : Byte) (a : Half) : (s.latch code a).txbuf = loadTx (cmdFrame code a) s.txbuf := rfl
@[simp] theorem State.latch_txlen (code : Byte) (a : Half) : (s.latch code a).txlen = BitVec.ofNat 3 (cmdFrame code a).length := rfl
@[simp] theorem State.latch_txidx (code : Byte) (a : Half) : (s.latch code a).txidx = 0 := rfl
@[simp] theorem State.latch_phase (code : Byte) (a : Half) : (s.latch code a).phase = s.phase := rfl
@[simp] theorem State.latch_mode (code : Byte) (a : Half) : (s.latch code a).mode = modeOf code := rfl
@[simp] theorem State.latch_cnt (code : Byte) (a : Half) : (s.latch code a).cnt = 0 := rfl
@[simp] theorem State.latch_prev59 (code : Byte) (a : Half) : (s.latch code a).prev59 = false := rfl
@[simp] theorem State.latch_lexp (code : Byte) (a : Half) : (s.latch code a).lexp = lexpOf code := rfl
@[simp] theorem State.latch_acc (code : Byte) (a : Half) : (s.latch code a).acc = 0 := rfl
@[simp] theorem State.latch_rxq (code : Byte) (a : Half) : (s.latch code a).rxq = s.rxq := rfl
@[simp] theorem State.latch_txlog (code : Byte) (a : Half) : (s.latch code a).txlog = s.txlog := rfl
@[simp] theorem State.latch_measStrict (code : Byte) (a : Half) : (s.latch code a).measStrict = s.measStrict := rfl
@[simp] theorem State.latch_env (code : Byte) (a : Half) : (s.latch code a).env = s.env := rfl
@[simp] theorem State.latch_freeCtr (code : Byte) (a : Half) : (s.latch code a).freeCtr = s.freeCtr := rfl

/-! ## the first phase of an operation (R221) -/

@[simp] theorem State.start_op (p : Phase) : (s.start p).op = s.op := rfl
@[simp] theorem State.start_arg (p : Phase) : (s.start p).arg = s.arg := rfl
@[simp] theorem State.start_busy (p : Phase) : (s.start p).busy = true := rfl
@[simp] theorem State.start_done (p : Phase) : (s.start p).done = s.done := rfl
@[simp] theorem State.start_ovr (p : Phase) : (s.start p).ovr = s.ovr := rfl
@[simp] theorem State.start_result (p : Phase) : (s.start p).result = s.result := rfl
@[simp] theorem State.start_dist (p : Phase) : (s.start p).dist = s.dist := rfl
@[simp] theorem State.start_strength (p : Phase) : (s.start p).strength = s.strength := rfl
@[simp] theorem State.start_temp (p : Phase) : (s.start p).temp = s.temp := rfl
@[simp] theorem State.start_csumOk (p : Phase) : (s.start p).csumOk = s.csumOk := rfl
@[simp] theorem State.start_verPatch (p : Phase) : (s.start p).verPatch = s.verPatch := rfl
@[simp] theorem State.start_verMinor (p : Phase) : (s.start p).verMinor = s.verMinor := rfl
@[simp] theorem State.start_verMajor (p : Phase) : (s.start p).verMajor = s.verMajor := rfl
@[simp] theorem State.start_rxbuf (p : Phase) : (s.start p).rxbuf = s.rxbuf := rfl
@[simp] theorem State.start_rxlen (p : Phase) : (s.start p).rxlen = s.rxlen := rfl
@[simp] theorem State.start_txbuf (p : Phase) : (s.start p).txbuf = s.txbuf := rfl
@[simp] theorem State.start_txlen (p : Phase) : (s.start p).txlen = s.txlen := rfl
@[simp] theorem State.start_txidx (p : Phase) : (s.start p).txidx = s.txidx := rfl
@[simp] theorem State.start_phase (p : Phase) : (s.start p).phase = p := rfl
@[simp] theorem State.start_mode (p : Phase) : (s.start p).mode = s.mode := rfl
@[simp] theorem State.start_cnt (p : Phase) : (s.start p).cnt = s.cnt := rfl
@[simp] theorem State.start_prev59 (p : Phase) : (s.start p).prev59 = s.prev59 := rfl
@[simp] theorem State.start_lexp (p : Phase) : (s.start p).lexp = s.lexp := rfl
@[simp] theorem State.start_acc (p : Phase) : (s.start p).acc = s.acc := rfl
@[simp] theorem State.start_rxq (p : Phase) : (s.start p).rxq = s.rxq := rfl
@[simp] theorem State.start_txlog (p : Phase) : (s.start p).txlog = s.txlog := rfl
@[simp] theorem State.start_measStrict (p : Phase) : (s.start p).measStrict = s.measStrict := rfl
@[simp] theorem State.start_env (p : Phase) : (s.start p).env = s.env := rfl
@[simp] theorem State.start_freeCtr (p : Phase) : (s.start p).freeCtr = s.freeCtr := rfl

/-! ## ISSUE while busy (R222) -/

@[simp] theorem State.overrun_op : s.overrun.op = s.op := rfl
@[simp] theorem State.overrun_arg : s.overrun.arg = s.arg := rfl
@[simp] theorem State.overrun_busy : s.overrun.busy = s.busy := rfl
@[simp] theorem State.overrun_done : s.overrun.done = s.done := rfl
@[simp] theorem State.overrun_ovr : s.overrun.ovr = true := rfl
@[simp] theorem State.overrun_result : s.overrun.result = s.result := rfl
@[simp] theorem State.overrun_dist : s.overrun.dist = s.dist := rfl
@[simp] theorem State.overrun_strength : s.overrun.strength = s.strength := rfl
@[simp] theorem State.overrun_temp : s.overrun.temp = s.temp := rfl
@[simp] theorem State.overrun_csumOk : s.overrun.csumOk = s.csumOk := rfl
@[simp] theorem State.overrun_verPatch : s.overrun.verPatch = s.verPatch := rfl
@[simp] theorem State.overrun_verMinor : s.overrun.verMinor = s.verMinor := rfl
@[simp] theorem State.overrun_verMajor : s.overrun.verMajor = s.verMajor := rfl
@[simp] theorem State.overrun_rxbuf : s.overrun.rxbuf = s.rxbuf := rfl
@[simp] theorem State.overrun_rxlen : s.overrun.rxlen = s.rxlen := rfl
@[simp] theorem State.overrun_txbuf : s.overrun.txbuf = s.txbuf := rfl
@[simp] theorem State.overrun_txlen : s.overrun.txlen = s.txlen := rfl
@[simp] theorem State.overrun_txidx : s.overrun.txidx = s.txidx := rfl
@[simp] theorem State.overrun_phase : s.overrun.phase = s.phase := rfl
@[simp] theorem State.overrun_mode : s.overrun.mode = s.mode := rfl
@[simp] theorem State.overrun_cnt : s.overrun.cnt = s.cnt := rfl
@[simp] theorem State.overrun_prev59 : s.overrun.prev59 = s.prev59 := rfl
@[simp] theorem State.overrun_lexp : s.overrun.lexp = s.lexp := rfl
@[simp] theorem State.overrun_acc : s.overrun.acc = s.acc := rfl
@[simp] theorem State.overrun_rxq : s.overrun.rxq = s.rxq := rfl
@[simp] theorem State.overrun_txlog : s.overrun.txlog = s.txlog := rfl
@[simp] theorem State.overrun_measStrict : s.overrun.measStrict = s.measStrict := rfl
@[simp] theorem State.overrun_env : s.overrun.env = s.env := rfl
@[simp] theorem State.overrun_freeCtr : s.overrun.freeCtr = s.freeCtr := rfl

/-! ## header found, command mode (R192) -/

@[simp] theorem State.headerCmd_op : s.headerCmd.op = s.op := rfl
@[simp] theorem State.headerCmd_arg : s.headerCmd.arg = s.arg := rfl
@[simp] theorem State.headerCmd_busy : s.headerCmd.busy = s.busy := rfl
@[simp] theorem State.headerCmd_done : s.headerCmd.done = s.done := rfl
@[simp] theorem State.headerCmd_ovr : s.headerCmd.ovr = s.ovr := rfl
@[simp] theorem State.headerCmd_result : s.headerCmd.result = s.result := rfl
@[simp] theorem State.headerCmd_dist : s.headerCmd.dist = s.dist := rfl
@[simp] theorem State.headerCmd_strength : s.headerCmd.strength = s.strength := rfl
@[simp] theorem State.headerCmd_temp : s.headerCmd.temp = s.temp := rfl
@[simp] theorem State.headerCmd_csumOk : s.headerCmd.csumOk = s.csumOk := rfl
@[simp] theorem State.headerCmd_verPatch : s.headerCmd.verPatch = s.verPatch := rfl
@[simp] theorem State.headerCmd_verMinor : s.headerCmd.verMinor = s.verMinor := rfl
@[simp] theorem State.headerCmd_verMajor : s.headerCmd.verMajor = s.verMajor := rfl
@[simp] theorem State.headerCmd_rxbuf : s.headerCmd.rxbuf = s.rxbuf.set 0 Config.hdrCmd := rfl
@[simp] theorem State.headerCmd_rxlen : s.headerCmd.rxlen = 1 := rfl
@[simp] theorem State.headerCmd_txbuf : s.headerCmd.txbuf = s.txbuf := rfl
@[simp] theorem State.headerCmd_txlen : s.headerCmd.txlen = s.txlen := rfl
@[simp] theorem State.headerCmd_txidx : s.headerCmd.txidx = s.txidx := rfl
@[simp] theorem State.headerCmd_phase : s.headerCmd.phase = .tail := rfl
@[simp] theorem State.headerCmd_mode : s.headerCmd.mode = s.mode := rfl
@[simp] theorem State.headerCmd_cnt : s.headerCmd.cnt = s.cnt := rfl
@[simp] theorem State.headerCmd_prev59 : s.headerCmd.prev59 = s.prev59 := rfl
@[simp] theorem State.headerCmd_lexp : s.headerCmd.lexp = s.lexp := rfl
@[simp] theorem State.headerCmd_acc : s.headerCmd.acc = accCmd := rfl
@[simp] theorem State.headerCmd_rxq : s.headerCmd.rxq = s.rxq := rfl
@[simp] theorem State.headerCmd_txlog : s.headerCmd.txlog = s.txlog := rfl
@[simp] theorem State.headerCmd_measStrict : s.headerCmd.measStrict = s.measStrict := rfl
@[simp] theorem State.headerCmd_env : s.headerCmd.env = s.env := rfl
@[simp] theorem State.headerCmd_freeCtr : s.headerCmd.freeCtr = s.freeCtr := rfl

/-! ## header found, measurement mode (R195) -/

@[simp] theorem State.headerMeas_op : s.headerMeas.op = s.op := rfl
@[simp] theorem State.headerMeas_arg : s.headerMeas.arg = s.arg := rfl
@[simp] theorem State.headerMeas_busy : s.headerMeas.busy = s.busy := rfl
@[simp] theorem State.headerMeas_done : s.headerMeas.done = s.done := rfl
@[simp] theorem State.headerMeas_ovr : s.headerMeas.ovr = s.ovr := rfl
@[simp] theorem State.headerMeas_result : s.headerMeas.result = s.result := rfl
@[simp] theorem State.headerMeas_dist : s.headerMeas.dist = s.dist := rfl
@[simp] theorem State.headerMeas_strength : s.headerMeas.strength = s.strength := rfl
@[simp] theorem State.headerMeas_temp : s.headerMeas.temp = s.temp := rfl
@[simp] theorem State.headerMeas_csumOk : s.headerMeas.csumOk = s.csumOk := rfl
@[simp] theorem State.headerMeas_verPatch : s.headerMeas.verPatch = s.verPatch := rfl
@[simp] theorem State.headerMeas_verMinor : s.headerMeas.verMinor = s.verMinor := rfl
@[simp] theorem State.headerMeas_verMajor : s.headerMeas.verMajor = s.verMajor := rfl
@[simp] theorem State.headerMeas_rxbuf : s.headerMeas.rxbuf = (s.rxbuf.set 0 Config.hdrMeas).set 1 Config.hdrMeas := rfl
@[simp] theorem State.headerMeas_rxlen : s.headerMeas.rxlen = 2 := rfl
@[simp] theorem State.headerMeas_txbuf : s.headerMeas.txbuf = s.txbuf := rfl
@[simp] theorem State.headerMeas_txlen : s.headerMeas.txlen = s.txlen := rfl
@[simp] theorem State.headerMeas_txidx : s.headerMeas.txidx = s.txidx := rfl
@[simp] theorem State.headerMeas_phase : s.headerMeas.phase = .tail := rfl
@[simp] theorem State.headerMeas_mode : s.headerMeas.mode = s.mode := rfl
@[simp] theorem State.headerMeas_cnt : s.headerMeas.cnt = s.cnt := rfl
@[simp] theorem State.headerMeas_prev59 : s.headerMeas.prev59 = false := rfl
@[simp] theorem State.headerMeas_lexp : s.headerMeas.lexp = s.lexp := rfl
@[simp] theorem State.headerMeas_acc : s.headerMeas.acc = accMeas := rfl
@[simp] theorem State.headerMeas_rxq : s.headerMeas.rxq = s.rxq := rfl
@[simp] theorem State.headerMeas_txlog : s.headerMeas.txlog = s.txlog := rfl
@[simp] theorem State.headerMeas_measStrict : s.headerMeas.measStrict = s.measStrict := rfl
@[simp] theorem State.headerMeas_env : s.headerMeas.env = s.env := rfl
@[simp] theorem State.headerMeas_freeCtr : s.headerMeas.freeCtr = s.freeCtr := rfl

/-! ## a tail byte that is not the last (R196) -/

@[simp] theorem State.storeByte_op (b : Byte) : (s.storeByte b).op = s.op := rfl
@[simp] theorem State.storeByte_arg (b : Byte) : (s.storeByte b).arg = s.arg := rfl
@[simp] theorem State.storeByte_busy (b : Byte) : (s.storeByte b).busy = s.busy := rfl
@[simp] theorem State.storeByte_done (b : Byte) : (s.storeByte b).done = s.done := rfl
@[simp] theorem State.storeByte_ovr (b : Byte) : (s.storeByte b).ovr = s.ovr := rfl
@[simp] theorem State.storeByte_result (b : Byte) : (s.storeByte b).result = s.result := rfl
@[simp] theorem State.storeByte_dist (b : Byte) : (s.storeByte b).dist = s.dist := rfl
@[simp] theorem State.storeByte_strength (b : Byte) : (s.storeByte b).strength = s.strength := rfl
@[simp] theorem State.storeByte_temp (b : Byte) : (s.storeByte b).temp = s.temp := rfl
@[simp] theorem State.storeByte_csumOk (b : Byte) : (s.storeByte b).csumOk = s.csumOk := rfl
@[simp] theorem State.storeByte_verPatch (b : Byte) : (s.storeByte b).verPatch = s.verPatch := rfl
@[simp] theorem State.storeByte_verMinor (b : Byte) : (s.storeByte b).verMinor = s.verMinor := rfl
@[simp] theorem State.storeByte_verMajor (b : Byte) : (s.storeByte b).verMajor = s.verMajor := rfl
@[simp] theorem State.storeByte_rxbuf (b : Byte) : (s.storeByte b).rxbuf = s.rxbuf.setIfInBounds s.rxlen.toNat b := rfl
@[simp] theorem State.storeByte_rxlen (b : Byte) : (s.storeByte b).rxlen = s.rxlen + 1 := rfl
@[simp] theorem State.storeByte_txbuf (b : Byte) : (s.storeByte b).txbuf = s.txbuf := rfl
@[simp] theorem State.storeByte_txlen (b : Byte) : (s.storeByte b).txlen = s.txlen := rfl
@[simp] theorem State.storeByte_txidx (b : Byte) : (s.storeByte b).txidx = s.txidx := rfl
@[simp] theorem State.storeByte_phase (b : Byte) : (s.storeByte b).phase = s.phase := rfl
@[simp] theorem State.storeByte_mode (b : Byte) : (s.storeByte b).mode = s.mode := rfl
@[simp] theorem State.storeByte_cnt (b : Byte) : (s.storeByte b).cnt = s.cnt := rfl
@[simp] theorem State.storeByte_prev59 (b : Byte) : (s.storeByte b).prev59 = s.prev59 := rfl
@[simp] theorem State.storeByte_lexp (b : Byte) : (s.storeByte b).lexp = s.lexp := rfl
@[simp] theorem State.storeByte_acc (b : Byte) : (s.storeByte b).acc = accAdd s.acc b := rfl
@[simp] theorem State.storeByte_rxq (b : Byte) : (s.storeByte b).rxq = s.rxq.tail := rfl
@[simp] theorem State.storeByte_txlog (b : Byte) : (s.storeByte b).txlog = s.txlog := rfl
@[simp] theorem State.storeByte_measStrict (b : Byte) : (s.storeByte b).measStrict = s.measStrict := rfl
@[simp] theorem State.storeByte_env (b : Byte) : (s.storeByte b).env = s.env := rfl
@[simp] theorem State.storeByte_freeCtr (b : Byte) : (s.storeByte b).freeCtr = s.freeCtr := rfl

/-! ## the last tail byte (R196) -/

@[simp] theorem State.storeLast_op (b : Byte) : (s.storeLast b).op = s.op := rfl
@[simp] theorem State.storeLast_arg (b : Byte) : (s.storeLast b).arg = s.arg := rfl
@[simp] theorem State.storeLast_busy (b : Byte) : (s.storeLast b).busy = s.busy := rfl
@[simp] theorem State.storeLast_done (b : Byte) : (s.storeLast b).done = s.done := rfl
@[simp] theorem State.storeLast_ovr (b : Byte) : (s.storeLast b).ovr = s.ovr := rfl
@[simp] theorem State.storeLast_result (b : Byte) : (s.storeLast b).result = s.result := rfl
@[simp] theorem State.storeLast_dist (b : Byte) : (s.storeLast b).dist = s.dist := rfl
@[simp] theorem State.storeLast_strength (b : Byte) : (s.storeLast b).strength = s.strength := rfl
@[simp] theorem State.storeLast_temp (b : Byte) : (s.storeLast b).temp = s.temp := rfl
@[simp] theorem State.storeLast_csumOk (b : Byte) : (s.storeLast b).csumOk = accVerdict s.acc b := rfl
@[simp] theorem State.storeLast_verPatch (b : Byte) : (s.storeLast b).verPatch = s.verPatch := rfl
@[simp] theorem State.storeLast_verMinor (b : Byte) : (s.storeLast b).verMinor = s.verMinor := rfl
@[simp] theorem State.storeLast_verMajor (b : Byte) : (s.storeLast b).verMajor = s.verMajor := rfl
@[simp] theorem State.storeLast_rxbuf (b : Byte) : (s.storeLast b).rxbuf = s.rxbuf.setIfInBounds s.rxlen.toNat b := rfl
@[simp] theorem State.storeLast_rxlen (b : Byte) : (s.storeLast b).rxlen = s.lexp := rfl
@[simp] theorem State.storeLast_txbuf (b : Byte) : (s.storeLast b).txbuf = s.txbuf := rfl
@[simp] theorem State.storeLast_txlen (b : Byte) : (s.storeLast b).txlen = s.txlen := rfl
@[simp] theorem State.storeLast_txidx (b : Byte) : (s.storeLast b).txidx = s.txidx := rfl
@[simp] theorem State.storeLast_phase (b : Byte) : (s.storeLast b).phase = s.phase := rfl
@[simp] theorem State.storeLast_mode (b : Byte) : (s.storeLast b).mode = s.mode := rfl
@[simp] theorem State.storeLast_cnt (b : Byte) : (s.storeLast b).cnt = s.cnt := rfl
@[simp] theorem State.storeLast_prev59 (b : Byte) : (s.storeLast b).prev59 = s.prev59 := rfl
@[simp] theorem State.storeLast_lexp (b : Byte) : (s.storeLast b).lexp = s.lexp := rfl
@[simp] theorem State.storeLast_acc (b : Byte) : (s.storeLast b).acc = s.acc := rfl
@[simp] theorem State.storeLast_rxq (b : Byte) : (s.storeLast b).rxq = s.rxq.tail := rfl
@[simp] theorem State.storeLast_txlog (b : Byte) : (s.storeLast b).txlog = s.txlog := rfl
@[simp] theorem State.storeLast_measStrict (b : Byte) : (s.storeLast b).measStrict = s.measStrict := rfl
@[simp] theorem State.storeLast_env (b : Byte) : (s.storeLast b).env = s.env := rfl
@[simp] theorem State.storeLast_freeCtr (b : Byte) : (s.storeLast b).freeCtr = s.freeCtr := rfl

/-! ## the next label taken (R16) -/

@[simp] theorem State.dropEvent_op : s.dropEvent.op = s.op := rfl
@[simp] theorem State.dropEvent_arg : s.dropEvent.arg = s.arg := rfl
@[simp] theorem State.dropEvent_busy : s.dropEvent.busy = s.busy := rfl
@[simp] theorem State.dropEvent_done : s.dropEvent.done = s.done := rfl
@[simp] theorem State.dropEvent_ovr : s.dropEvent.ovr = s.ovr := rfl
@[simp] theorem State.dropEvent_result : s.dropEvent.result = s.result := rfl
@[simp] theorem State.dropEvent_dist : s.dropEvent.dist = s.dist := rfl
@[simp] theorem State.dropEvent_strength : s.dropEvent.strength = s.strength := rfl
@[simp] theorem State.dropEvent_temp : s.dropEvent.temp = s.temp := rfl
@[simp] theorem State.dropEvent_csumOk : s.dropEvent.csumOk = s.csumOk := rfl
@[simp] theorem State.dropEvent_verPatch : s.dropEvent.verPatch = s.verPatch := rfl
@[simp] theorem State.dropEvent_verMinor : s.dropEvent.verMinor = s.verMinor := rfl
@[simp] theorem State.dropEvent_verMajor : s.dropEvent.verMajor = s.verMajor := rfl
@[simp] theorem State.dropEvent_rxbuf : s.dropEvent.rxbuf = s.rxbuf := rfl
@[simp] theorem State.dropEvent_rxlen : s.dropEvent.rxlen = s.rxlen := rfl
@[simp] theorem State.dropEvent_txbuf : s.dropEvent.txbuf = s.txbuf := rfl
@[simp] theorem State.dropEvent_txlen : s.dropEvent.txlen = s.txlen := rfl
@[simp] theorem State.dropEvent_txidx : s.dropEvent.txidx = s.txidx := rfl
@[simp] theorem State.dropEvent_phase : s.dropEvent.phase = s.phase := rfl
@[simp] theorem State.dropEvent_mode : s.dropEvent.mode = s.mode := rfl
@[simp] theorem State.dropEvent_cnt : s.dropEvent.cnt = s.cnt := rfl
@[simp] theorem State.dropEvent_prev59 : s.dropEvent.prev59 = s.prev59 := rfl
@[simp] theorem State.dropEvent_lexp : s.dropEvent.lexp = s.lexp := rfl
@[simp] theorem State.dropEvent_acc : s.dropEvent.acc = s.acc := rfl
@[simp] theorem State.dropEvent_rxq : s.dropEvent.rxq = s.rxq := rfl
@[simp] theorem State.dropEvent_txlog : s.dropEvent.txlog = s.txlog := rfl
@[simp] theorem State.dropEvent_measStrict : s.dropEvent.measStrict = s.measStrict := rfl
@[simp] theorem State.dropEvent_env : s.dropEvent.env = s.env.tail := rfl
@[simp] theorem State.dropEvent_freeCtr : s.dropEvent.freeCtr = s.freeCtr := rfl

end Sys2Proof.Machine
end

