-- ==== Sys2Proof/Laws/Ops.lean ====
section
/-! SUPPORT. One lemma per shared operation that says once everything it can do; the proofs about steps cite these. -/

namespace Sys2Proof.Machine

/-! ## Views -/

theorem State.txFrame_length (s : State) (h : s.txlen.toNat ≤ 6) : s.txFrame.length = s.txlen.toNat := by
  simp [State.txFrame, h]

theorem State.rxFrame_length (s : State) (h : s.rxlen.toNat ≤ 9) : s.rxFrame.length = s.rxlen.toNat := by
  simp [State.rxFrame, h]

/-! ## ISSUE (R221, R222, R229) -/

/-- Everything an ISSUE can do. -/
theorem State.issue_cases (s : State) (op : Byte) (arg : Half) :
    (s.busy = true ∧ s.issue op arg = s.overrun) ∨
    (s.busy = false ∧ op = 0x00 ∧ s.issue op arg = (s.latch op arg).start .search) ∨
    (s.busy = false ∧ legalOp op = true ∧ op ≠ 0x00 ∧ s.issue op arg = (s.latch op arg).start .tx) ∨
    (s.busy = false ∧ legalOp op = false ∧ s.issue op arg = (s.latch op arg).complete .illegalOperation) := by
  unfold State.issue State.accept
  cases s.busy
  · by_cases h0 : op = Config.codeGetMeasurement
    · exact .inr (.inl ⟨rfl, h0, (if_neg Bool.false_ne_true).trans (if_pos h0)⟩)
    · cases hl : legalOp op
      · exact .inr (.inr (.inr ⟨rfl, rfl,
          (if_neg Bool.false_ne_true).trans ((if_neg h0).trans (if_neg Bool.false_ne_true))⟩))
      · exact .inr (.inr (.inl ⟨rfl, rfl, h0, (if_neg Bool.false_ne_true).trans ((if_neg h0).trans (if_pos rfl))⟩))
  · exact .inl ⟨rfl, if_pos rfl⟩

/-- The command frame that an accepted ISSUE loads stands in TXBUF (R139). -/
theorem State.latch_txFrame (s : State) (op : Byte) (arg : Half) : (s.latch op arg).txFrame = cmdFrame op arg := by
  have h := cmdFrame_length_le op arg
  have : (BitVec.ofNat 3 (cmdFrame op arg).length).toNat = (cmdFrame op arg).length := by
    rw [BitVec.toNat_ofNat]; omega
  simp only [State.txFrame, State.latch_txbuf, State.latch_txlen, this]
  exact take_loadTx _ _ h

theorem State.latch_txlen_toNat (s : State) (op : Byte) (arg : Half) :
    (s.latch op arg).txlen.toNat = (cmdFrame op arg).length := by
  have h := cmdFrame_length_le op arg
  rw [State.latch_txlen, BitVec.toNat_ofNat]; omega

/-! ## TXSTEP (R223) -/

/-- Everything a TXSTEP can do. -/
theorem State.txStep_cases (s : State) (v : Byte) :
    (s.txidx.toNat + 1 = s.txlen.toNat ∧
      s.txStep v = { s with txlog := s.txlog ++ [v], txidx := s.txlen, phase := .search }) ∨
    (s.txidx.toNat + 1 ≠ s.txlen.toNat ∧ s.txStep v = { s with txlog := s.txlog ++ [v], txidx := s.txidx + 1 }) := by
  unfold State.txStep
  by_cases h : s.txidx.toNat + 1 = s.txlen.toNat
  · exact .inl ⟨h, by rw [if_pos h]; rfl⟩
  · exact .inr ⟨h, by rw [if_neg h]; rfl⟩

/-- Where the frame stands in TXBUF and a byte of it is left, its meaning is that byte's TXSTEP. -/
theorem sendFrame_eq {F : List Byte} {s : State} {v : Byte} (hp : s.phase = .tx) (hl : F.length = s.txlen.toNat)
    (hF : s.txFrame = F) (hv : F[s.txidx.toNat]? = some v) : sendFrame F s = .next (s.txStep v) := by
  rw [sendFrame, if_pos ⟨hp, hl, hF⟩, hv]

/-- A sent frame that is not at hand: its meaning leaves the state as it is (log entry 6). -/
theorem sendFrame_stay {F : List Byte} {s : State}
    (h : ¬ (s.phase = .tx ∧ s.txlen.toNat = F.length ∧ s.txFrame = F ∧ s.txidx.toNat < F.length)) :
    sendFrame F s = .next s := by
  unfold sendFrame
  split
  next hc =>
    rw [List.getElem?_eq_none (Nat.le_of_not_lt fun hi => h ⟨hc.1, hc.2.1.symm, hc.2.2, hi⟩)]
  next => rfl

/-! ## The failed search (R198, R272) -/

/-- Everything the free values of a failed search can do: only the output registers of this operation can change. -/
theorem State.freeOutputs_cases (s : State) :
    ∃ (d st te : Half) (pa mi ma : Byte) (fc : Nat),
      s.freeOutputs = { s with
        dist := d, strength := st, temp := te, verPatch := pa, verMinor := mi, verMajor := ma, freeCtr := fc } ∧
      (s.op ≠ 0x00 → s.op ≠ 0x04 → d = s.dist ∧ st = s.strength ∧ te = s.temp) ∧
      (s.op ≠ 0x01 → pa = s.verPatch ∧ mi = s.verMinor ∧ ma = s.verMajor) := by
  unfold State.freeOutputs
  split
  next h =>
    refine ⟨_, _, _, _, _, _, _, rfl, fun h0 h4 => ?_, fun _ => ⟨rfl, rfl, rfl⟩⟩
    exact absurd h (by rintro (h | h); exacts [h0 h, h4 h])
  next =>
    split
    next h => exact ⟨_, _, _, _, _, _, _, rfl, fun _ _ => ⟨rfl, rfl, rfl⟩, fun h1 => absurd h h1⟩
    next => exact ⟨_, _, _, _, _, _, _, rfl, fun _ _ => ⟨rfl, rfl, rfl⟩, fun _ => ⟨rfl, rfl, rfl⟩⟩

/-- Everything the failed search can do. -/
theorem State.searchTimeout_cases (s : State) :
    ∃ (d st te : Half) (pa mi ma : Byte) (fc : Nat),
      s.searchTimeout = { s with
        cnt := 31, result := 1, phase := .idle, busy := false, done := true
        dist := d, strength := st, temp := te, verPatch := pa, verMinor := mi, verMajor := ma, freeCtr := fc } ∧
      (s.op ≠ 0x00 → s.op ≠ 0x04 → d = s.dist ∧ st = s.strength ∧ te = s.temp) ∧
      (s.op ≠ 0x01 → pa = s.verPatch ∧ mi = s.verMinor ∧ ma = s.verMajor) := by
  obtain ⟨d, st, te, pa, mi, ma, fc, h, h1, h2⟩ := State.freeOutputs_cases { s with cnt := 31 }
  exact ⟨d, st, te, pa, mi, ma, fc, by rw [State.searchTimeout, h]; rfl, h1, h2⟩

/-! ## RXSTEP in phase SEARCH (R191, R194) -/

/-- Everything a search step can do. -/
theorem State.searchStep_cases (s : State) (b : Byte) :
    (s.mode = .cmd ∧ b = 0x5A ∧ s.searchStep b = s.takeByte.headerCmd) ∨
    (s.mode = .meas ∧ b = 0x59 ∧ s.prev59 = true ∧ s.searchStep b = s.takeByte.headerMeas) ∨
    (s.mode = .meas ∧ b = 0x59 ∧ s.prev59 = false ∧ s.searchStep b = { s.takeByte with prev59 := true }) ∨
    (s.mode = .cmd ∧ b ≠ 0x5A ∧ s.cnt.toNat ≠ 30 ∧ s.searchStep b = { s.takeByte with cnt := s.cnt + 1 }) ∨
    (s.mode = .meas ∧ b ≠ 0x59 ∧ s.cnt.toNat ≠ 30 ∧
      s.searchStep b = { s.takeByte with prev59 := false, cnt := s.cnt + 1 }) ∨
    (s.mode = .cmd ∧ b ≠ 0x5A ∧ s.cnt.toNat = 30 ∧ s.searchStep b = s.takeByte.searchTimeout) ∨
    (s.mode = .meas ∧ b ≠ 0x59 ∧ s.cnt.toNat = 30 ∧
      s.searchStep b = State.searchTimeout { s.takeByte with prev59 := false }) := by
  unfold State.searchStep State.discard
  cases hm : s.mode with
  | cmd =>
    by_cases hb : b = Config.hdrCmd
    · exact .inl ⟨rfl, hb, if_pos hb⟩
    · by_cases hc : s.cnt.toNat = 30
      · exact .inr (.inr (.inr (.inr (.inr (.inl ⟨rfl, hb, hc, (if_neg hb).trans (if_pos hc)⟩)))))
      · exact .inr (.inr (.inr (.inl ⟨rfl, hb, hc, (if_neg hb).trans (if_neg hc)⟩)))
  | meas =>
    by_cases hb : b = Config.hdrMeas
    · cases hp : s.prev59
      · exact .inr (.inr (.inl ⟨rfl, hb, rfl, (if_pos hb).trans (if_neg Bool.false_ne_true)⟩))
      · exact .inr (.inl ⟨rfl, hb, rfl, (if_pos hb).trans (if_pos rfl)⟩)
    · by_cases hc : s.cnt.toNat = 30
      · exact .inr (.inr (.inr (.inr (.inr (.inr ⟨rfl, hb, hc, (if_neg hb).trans (if_pos hc)⟩)))))
      · exact .inr (.inr (.inr (.inr (.inl ⟨rfl, hb, hc, (if_neg hb).trans (if_neg hc)⟩))))

/-- The same in three cases, for what the exact byte does not matter to: header found, byte taken and the search goes on,
search failed. -/
theorem State.searchStep_coarse (s : State) (b : Byte) :
    (∃ (rb : Vector Byte 9) (rl : BitVec 4) (ac : Byte) (p : Bool),
      s.searchStep b = { s.takeByte with rxbuf := rb, rxlen := rl, acc := ac, prev59 := p, phase := .tail }) ∨
    (∃ (p : Bool) (c : BitVec 5), s.searchStep b = { s.takeByte with prev59 := p, cnt := c }) ∨
    (s.cnt = 30 ∧ ∃ (p : Bool) (d st te : Half) (pa mi ma : Byte) (fc : Nat),
      s.searchStep b = { s.takeByte with
        cnt := 31, result := 1, phase := .idle, busy := false, done := true, prev59 := p
        dist := d, strength := st, temp := te, verPatch := pa, verMinor := mi, verMajor := ma, freeCtr := fc } ∧
      (s.op ≠ 0x00 → s.op ≠ 0x04 → d = s.dist ∧ st = s.strength ∧ te = s.temp) ∧
      (s.op ≠ 0x01 → pa = s.verPatch ∧ mi = s.verMinor ∧ ma = s.verMajor)) := by
  rcases s.searchStep_cases b with ⟨-, -, h⟩ | ⟨-, -, -, h⟩ | ⟨-, -, -, h⟩ | ⟨-, -, -, h⟩ | ⟨-, -, -, h⟩ |
    ⟨-, -, hc, h⟩ | ⟨-, -, hc, h⟩
  · exact .inl ⟨_, _, _, _, h⟩
  · exact .inl ⟨_, _, _, _, h⟩
  · exact .inr (.inl ⟨_, _, h⟩)
  · exact .inr (.inl ⟨_, _, h⟩)
  · exact .inr (.inl ⟨_, _, h⟩)
  · obtain ⟨d, st, te, pa, mi, ma, fc, ht, h1, h2⟩ := State.searchTimeout_cases s.takeByte
    exact .inr (.inr ⟨BitVec.eq_of_toNat_eq hc, _, d, st, te, pa, mi, ma, fc, h.trans ht, h1, h2⟩)
  · obtain ⟨d, st, te, pa, mi, ma, fc, ht, h1, h2⟩ := State.searchTimeout_cases { s.takeByte with prev59 := false }
    exact .inr (.inr ⟨BitVec.eq_of_toNat_eq hc, _, d, st, te, pa, mi, ma, fc, h.trans ht, h1, h2⟩)

/-- The header stands in RXBUF (R192, R195). -/
theorem State.headerCmd_rxFrame (s : State) : s.headerCmd.rxFrame = [0x5A] := take_set_first _ _ (by decide)

theorem State.headerMeas_rxFrame (s : State) : s.headerMeas.rxFrame = [0x59, 0x59] := take_set_two _ _ _ (by decide)

/-! ## RXSTEP in phase TAIL (R196) -/

/-- A tail byte lengthens the stored frame by itself. -/
theorem State.storeByte_rxFrame (s : State) (b : Byte) (h : s.rxlen.toNat < 9) :
    (s.storeByte b).rxFrame = s.rxFrame ++ [b] := by
  have h1 : (s.rxlen + 1).toNat = s.rxlen.toNat + 1 := by rw [BitVec.toNat_add]; simp; omega
  simp only [State.rxFrame, State.storeByte_rxbuf, State.storeByte_rxlen, h1]
  exact take_succ_setIfInBounds _ _ _ h

/-- The last tail byte completes it. -/
theorem State.storeLast_rxFrame (s : State) (b : Byte) (h : s.rxlen.toNat < 9) (hl : s.rxlen.toNat + 1 = s.lexp.toNat) :
    (s.storeLast b).rxFrame = s.rxFrame ++ [b] := by
  simp only [State.rxFrame, State.storeLast_rxbuf, State.storeLast_rxlen, ← hl]
  exact take_succ_setIfInBounds _ _ _ h

theorem State.storeLast_eq {s : State} {n : Nat} {b : Byte} {q : List Byte} (h9 : n < 9) (h2 : s.rxlen.toNat = n)
    (hq : s.rxq = b :: q) :
    s.storeLast b =
      { s with rxq := q, rxbuf := s.rxbuf.set n b h9, rxlen := s.lexp, csumOk := s.acc == b } := by
  subst h2
  simp only [State.storeLast, State.takeByte, hq, List.tail_cons, accVerdict, setIfInBounds_eq_set _ _ _ h9]

theorem State.frameAtHand_eq {s : State} {n : Nat} {b : Byte} {q : List Byte} (h1 : s.lexp.toNat = n + 1)
    (h2 : s.rxlen.toNat = n) (hq : s.rxq = b :: q) : s.frameAtHand = some (s.rxbuf.toList.take n ++ [b], b) := by
  simp only [State.frameAtHand, hq, h1, h2, State.rxFrame, if_true]

/-- Where the frame is at hand in the context that reads it, its meaning is the RXSTEP of its last byte. -/
theorem readFrame_eq {ops F : List Byte} {finish : State → State} {s : State} {b : Byte} (hp : s.phase = .tail)
    (ho : s.op ∈ ops) (hF : s.frameAtHand = some (F, b)) : readFrame ops F finish s = .next (finish (s.storeLast b)) := by
  rw [readFrame, if_pos ⟨hp, ho⟩, hF]
  exact if_pos rfl

/-- A received frame that is not at hand: its meaning leaves the state as it is (log entry 6). -/
theorem readFrame_stay {ops F : List Byte} {finish : State → State} {s : State}
    (h : ¬ (s.phase = .tail ∧ s.op ∈ ops ∧ s.rxlen.toNat + 1 = s.lexp.toNat ∧ ∃ b q, s.rxq = b :: q ∧ s.rxFrame ++ [b] = F)) :
    readFrame ops F finish s = .next s := by
  unfold readFrame State.frameAtHand
  split
  next hc =>
    cases hq : s.rxq with
    | nil => rfl
    | cons b q =>
      by_cases hl : s.rxlen.toNat + 1 = s.lexp.toNat
      · simp only [if_pos hl]
        exact if_neg fun hF => h ⟨hc.1, hc.2, hl, b, q, hq, hF⟩
      · simp only [if_neg hl]
  next => rfl

/-! ## The finishing step (R236, R241, R246, R249) -/

theorem State.finishMeasurement_eq (f0 f1 dL dH sL sH tL tH c : Byte) (s : State) :
    s.finishMeasurement [f0, f1, dL, dH, sL, sH, tL, tH, c] =
      State.complete (if s.measStrict && !s.csumOk then .checksumMismatch else .success)
        { s with dist := le16 dL dH, strength := le16 sL sH, temp := tempRegister (temperature (le16 tL tH)) } := rfl

theorem State.finishEcho_eq (F : List Byte) (s : State) :
    s.finishEcho F =
      s.complete (if !s.csumOk then .checksumMismatch else if F = s.txbuf.toList then .success else .unexpectedResponse) := by
  unfold State.finishEcho
  split
  · rfl
  · by_cases hF : F = s.txbuf.toList
    · rw [if_neg (not_not.mpr hF), if_pos hF]
    · rw [if_pos hF, if_neg hF]

theorem State.finishVersion_eq (f0 f1 f2 p m j c : Byte) (s : State) :
    s.finishVersion [f0, f1, f2, p, m, j, c] =
      State.complete (if s.csumOk then .success else .checksumMismatch)
        { s with verPatch := p, verMinor := m, verMajor := j } := rfl

theorem State.finishStatus_eq (ctx : StatusOp) (f0 f1 f2 f3 f4 : Byte) (s : State) :
    s.finishStatus ctx [f0, f1, f2, f3, f4] =
      s.complete (if !s.csumOk then .checksumMismatch else if (f3, f4) = okPair ctx then .success
        else if (f3, f4) = nakPair ctx then .deviceFailure else .unexpectedResponse) := by
  simp only [State.finishStatus]
  (repeat' split) <;> rfl

end Sys2Proof.Machine
end

