-- ==== Sys2Proof/Laws/PerInstr.lean ====
section
/-! SUPPORT. The per-instruction family RowPattern: the encoding of every instruction carries the fixed bytes and the width of
its row of spec/opcode_table.json. -/

namespace Sys2Proof.Laws.RowPattern

/-- The bytes of what an instruction is fetched from, as the table writes them: an operation word from its top byte, a frame
from its first (R105). -/
def image : Fetched → List Byte
  | .word w => [w.extractLsb' 16 8, w.extractLsb' 8 8, w.extractLsb' 0 8]
  | .sent F => F
  | .received _ F => F

/-- The row's pattern, byte by byte; `none` where the table has a field. -/
def row : Instr → List (Option Byte)
  | .getMeasurement _ => [some 0x00, none, none]
  | .getVersion _ => [some 0x01, none, none]
  | .systemReset _ => [some 0x02, none, none]
  | .setFrameRate _ => [some 0x03, none, none]
  | .triggerMeasurement _ => [some 0x04, none, none]
  | .saveSettings _ => [some 0x11, none, none]
  | .cmdVersion => [some 0x5A, some 0x04, some 0x01, some 0x5F]
  | .cmdReset => [some 0x5A, some 0x04, some 0x02, some 0x60]
  | .cmdFrameRate _ _ _ => [some 0x5A, some 0x06, some 0x03, none, none, none]
  | .cmdTrigger => [some 0x5A, some 0x04, some 0x04, some 0x62]
  | .cmdSave => [some 0x5A, some 0x04, some 0x11, some 0x6F]
  | .meas _ _ _ _ _ _ _ => [some 0x59, some 0x59, none, none, none, none, none, none, none]
  | .rspEcho _ _ _ _ _ => [some 0x5A, none, none, none, none, none]
  | .rspStatusResetOk _ _ => [some 0x5A, none, none, some 0x00, some 0x60]
  | .rspStatusResetFail _ _ => [some 0x5A, none, none, some 0x01, some 0x61]
  | .rspStatusSaveOk _ _ => [some 0x5A, none, none, some 0x00, some 0x70]
  | .rspStatusSaveFail _ _ => [some 0x5A, none, none, some 0x01, some 0x71]
  | .rspStatusOther _ _ _ _ _ => [some 0x5A, none, none, none, none]
  | .rspVersion _ _ _ _ _ _ => [some 0x5A, none, none, none, none, none, none]

/-- A byte fits a place of a pattern. -/
def fits : Option Byte → Byte → Prop
  | none, _ => True
  | some b, c => b = c

/-- The encoding of `i` has the width of its row and every fixed byte of it. -/
def Statement (i : Instr) : Prop := List.Forall₂ fits (row i) (image (encode i))

theorem word_statement (op : Byte) (arg : Half) :
    List.Forall₂ fits [some op, none, none] (image (.word (Machine.opWord op arg))) :=
  .cons (Machine.opOf_opWord op arg).symm (.cons trivial (.cons trivial .nil))

theorem getMeasurement (arg : Half) : Statement (.getMeasurement arg) := word_statement _ _

theorem getVersion (arg : Half) : Statement (.getVersion arg) := word_statement _ _

theorem systemReset (arg : Half) : Statement (.systemReset arg) := word_statement _ _

theorem setFrameRate (hz : Half) : Statement (.setFrameRate hz) := word_statement _ _

theorem triggerMeasurement (arg : Half) : Statement (.triggerMeasurement arg) := word_statement _ _

theorem saveSettings (arg : Half) : Statement (.saveSettings arg) := word_statement _ _

theorem cmdVersion : Statement .cmdVersion :=
  .cons rfl (.cons rfl (.cons rfl (.cons rfl .nil)))

theorem cmdReset : Statement .cmdReset :=
  .cons rfl (.cons rfl (.cons rfl (.cons rfl .nil)))

theorem cmdFrameRate (l h c : Byte) : Statement (.cmdFrameRate l h c) :=
  .cons rfl (.cons rfl (.cons rfl (.cons trivial (.cons trivial (.cons trivial .nil)))))

theorem cmdTrigger : Statement .cmdTrigger :=
  .cons rfl (.cons rfl (.cons rfl (.cons rfl .nil)))

theorem cmdSave : Statement .cmdSave :=
  .cons rfl (.cons rfl (.cons rfl (.cons rfl .nil)))

theorem meas (dL dH sL sH tL tH c : Byte) : Statement (.meas dL dH sL sH tL tH c) :=
  .cons rfl (.cons rfl (.cons trivial (.cons trivial (.cons trivial (.cons trivial (.cons trivial (.cons trivial (.cons trivial .nil))))))))

theorem rspEcho (e1 e2 e3 e4 c : Byte) : Statement (.rspEcho e1 e2 e3 e4 c) :=
  .cons rfl (.cons trivial (.cons trivial (.cons trivial (.cons trivial (.cons trivial .nil)))))

theorem rspStatusResetOk (r q : Byte) : Statement (.rspStatusResetOk r q) :=
  .cons rfl (.cons trivial (.cons trivial (.cons rfl (.cons rfl .nil))))

theorem rspStatusResetFail (r q : Byte) : Statement (.rspStatusResetFail r q) :=
  .cons rfl (.cons trivial (.cons trivial (.cons rfl (.cons rfl .nil))))

theorem rspStatusSaveOk (r q : Byte) : Statement (.rspStatusSaveOk r q) :=
  .cons rfl (.cons trivial (.cons trivial (.cons rfl (.cons rfl .nil))))

theorem rspStatusSaveFail (r q : Byte) : Statement (.rspStatusSaveFail r q) :=
  .cons rfl (.cons trivial (.cons trivial (.cons rfl (.cons rfl .nil))))

theorem rspStatusOther (ctx : StatusOp) (r q s c : Byte) : Statement (.rspStatusOther ctx r q s c) :=
  .cons rfl (.cons trivial (.cons trivial (.cons trivial (.cons trivial .nil))))

theorem rspVersion (r q p m j c : Byte) : Statement (.rspVersion r q p m j c) :=
  .cons rfl (.cons trivial (.cons trivial (.cons trivial (.cons trivial (.cons trivial (.cons trivial .nil))))))

end Sys2Proof.Laws.RowPattern
end

