-- ==== Sys2Proof/Laws/Step.lean ====
section
/-! SUPPORT. What one step can do, said once: the block's own moves and then the four labels. Every proof about a step is a
case analysis on `step_next`. -/

namespace Sys2Proof.Machine

/-! ## Running a frame -/

/-- The finishing step of the operation `op` on the frame `F` (R230). -/
def finishBy (op : Byte) (F : List Byte) (s : State) : State :=
  if op = Config.codeGetMeasurement ∨ op = Config.codeTrigger then s.finishMeasurement F
  else if op = Config.codeFrameRate then s.finishEcho F
  else if op = Config.codeVersion then s.finishVersion F
  else if op = Config.codeReset then s.finishStatus .systemReset F
  else s.finishStatus .saveSettings F

/-- A sent frame that the decoder accepts is the frame of its instruction. -/
theorem decodeSent_ok {F : List Byte} {i : Instr} (h : decodeSent F = .ok i) :
    F.length ≤ 6 ∧ ∀ s, exec i s = sendFrame F s := by
  unfold decodeSent at h
  (repeat' split at h) <;> cases h <;>
    refine ⟨by simp, fun s => ?_⟩ <;> simp_all [exec, execCmdVersion, execCmdReset, execCmdTrigger, execCmdSave, execCmdFrameRate, frameBytes]

/-- A complete frame of the form that the operation `op` reads (R97 to R101). -/
inductive ReadForm : Byte → List Byte → Prop
  | meas {op : Byte} (h : op = 0x00 ∨ op = 0x04) (dL dH sL sH tL tH c : Byte) :
    ReadForm op [0x59, 0x59, dL, dH, sL, sH, tL, tH, c]
  | echo (e1 e2 e3 e4 c : Byte) : ReadForm 0x03 [0x5A, e1, e2, e3, e4, c]
  | version (r q p m j c : Byte) : ReadForm 0x01 [0x5A, r, q, p, m, j, c]
  | status (ctx : StatusOp) (r q p c : Byte) : ReadForm (statusCode ctx) [0x5A, r, q, p, c]

/-- A received frame that the decoder accepts has the form of its operation, and runs that operation's finishing step. -/
theorem decodeReceived_ok {op : Byte} {F : List Byte} {i : Instr} (h : decodeReceived op F = .ok i) :
    ReadForm op F ∧ ∃ ops, op ∈ ops ∧ ∀ s, exec i s = readFrame ops F (finishBy op F) s := by
  unfold decodeReceived at h
  split at h
  next h0 =>
    have hf : ∀ G, finishBy op G = State.finishMeasurement G := fun G => funext fun s => if_pos h0
    unfold decodeMeas at h
    (repeat' split at h) <;> cases h
    rename_i hF
    obtain ⟨rfl, rfl⟩ := hF
    rw [hf]
    exact ⟨.meas h0 .., [Config.codeGetMeasurement, Config.codeTrigger], by simpa using h0, fun s => rfl⟩
  next h0 =>
  split at h
  next h3 =>
    subst h3
    unfold decodeEcho at h
    (repeat' split at h) <;> cases h
    rename_i hF
    subst hF
    exact ⟨.echo .., [Config.codeFrameRate], by simp, fun s => rfl⟩
  next h3 =>
  split at h
  next h1 =>
    subst h1
    unfold decodeVersion at h
    (repeat' split at h) <;> cases h
    rename_i hF
    subst hF
    exact ⟨.version .., [Config.codeVersion], by simp, fun s => rfl⟩
  next h1 =>
  split at h
  next h2 =>
    subst h2
    unfold decodeStatus at h
    (repeat' split at h) <;> cases h <;> simp_all only [Prod.mk.injEq, okPair, nakPair, reduceCtorEq] <;>
      exact ⟨.status .systemReset .., [Config.codeReset], by simp, fun s => rfl⟩
  next h2 =>
  split at h
  next h11 =>
    subst h11
    unfold decodeStatus at h
    (repeat' split at h) <;> cases h <;> simp_all only [Prod.mk.injEq, okPair, nakPair, reduceCtorEq] <;>
      exact ⟨.status .saveSettings .., [Config.codeSave], by simp, fun s => rfl⟩
  next => cases h

/-- A frame of the right form is one that the decoder accepts. -/
theorem ReadForm.decode {op : Byte} {F : List Byte} (h : ReadForm op F) : ∃ i, decodeReceived op F = .ok i := by
  cases h with
  | meas h dL dH sL sH tL tH c => exact ⟨.meas dL dH sL sH tL tH c, (if_pos h).trans rfl⟩
  | echo e1 e2 e3 e4 c => exact ⟨.rspEcho e1 e2 e3 e4 c, rfl⟩
  | version r q p m j c => exact ⟨.rspVersion r q p m j c, rfl⟩
  | status ctx r q p c =>
    cases ctx
    · refine ⟨if (p, c) = okPair .systemReset then .rspStatusResetOk r q
        else if (p, c) = nakPair .systemReset then .rspStatusResetFail r q else .rspStatusOther .systemReset r q p c, ?_⟩
      show decodeStatus .systemReset [0x5A, r, q, p, c] = _
      simp only [decodeStatus]
      (repeat' split) <;> simp_all [Config.hdrCmd]
    · refine ⟨if (p, c) = okPair .saveSettings then .rspStatusSaveOk r q
        else if (p, c) = nakPair .saveSettings then .rspStatusSaveFail r q else .rspStatusOther .saveSettings r q p c, ?_⟩
      show decodeStatus .saveSettings [0x5A, r, q, p, c] = _
      simp only [decodeStatus]
      (repeat' split) <;> simp_all [Config.hdrCmd]

theorem ReadForm.length {op : Byte} {F : List Byte} (h : ReadForm op F) : F.length = (lexpOf op).toNat := by
  cases h with
  | meas h => rw [show lexpOf op = 9 from if_pos h]; rfl
  | status ctx => cases ctx <;> rfl
  | _ => rfl

/-- A frame of the right length that begins with its header has the form of its operation: the rest may be anything. -/
theorem ReadForm.of_header {op : Byte} {F : List Byte} (hl : legalOp op = true) (h : F.length = (lexpOf op).toNat)
    (hh : F.take (headerOf (modeOf op)).length = headerOf (modeOf op)) : ReadForm op F := by
  rw [legalOp_iff] at hl
  rcases hl with rfl | rfl | rfl | rfl | rfl | rfl
  · match F, h, hh with
    | [_, _, _, _, _, _, _, _, _], _, hh => cases hh; exact .meas (.inl rfl) ..
  · match F, h, hh with
    | [_, _, _, _, _, _, _], _, hh => cases hh; exact .version ..
  · match F, h, hh with
    | [_, _, _, _, _], _, hh => cases hh; exact .status .systemReset ..
  · match F, h, hh with
    | [_, _, _, _, _, _], _, hh => cases hh; exact .echo ..
  · match F, h, hh with
    | [_, _, _, _, _, _, _, _, _], _, hh => cases hh; exact .meas (.inr rfl) ..
  · match F, h, hh with
    | [_, _, _, _, _], _, hh => cases hh; exact .status .saveSettings ..

/-- The command frame of an operation is one that the decoder accepts. -/
theorem decodeSent_cmdFrame {op : Byte} (arg : Half) (hl : legalOp op = true) (h0 : op ≠ 0x00) :
    ∃ i, decodeSent (cmdFrame op arg) = .ok i := by
  rw [legalOp_iff] at hl
  rcases hl with rfl | rfl | rfl | rfl | rfl | rfl
  · exact absurd rfl h0
  all_goals exact ⟨_, rfl⟩

theorem finishBy_meas {op : Byte} (h : op = 0x00 ∨ op = 0x04) (F : List Byte) (s : State) :
    finishBy op F s = s.finishMeasurement F := if_pos h

theorem finishBy_echo (F : List Byte) (s : State) : finishBy 0x03 F s = s.finishEcho F := rfl

theorem finishBy_version (F : List Byte) (s : State) : finishBy 0x01 F s = s.finishVersion F := rfl

theorem finishBy_status (ctx : StatusOp) (F : List Byte) (s : State) :
    finishBy (statusCode ctx) F s = s.finishStatus ctx F := by
  cases ctx <;> rfl

/-- Everything a finishing step can do: one of four results, the output registers of this operation, and the end. -/
theorem finishBy_cases {op : Byte} {F : List Byte} (h : ReadForm op F) (s : State) :
    ∃ (code : ResultCode) (d st te : Half) (pa mi ma : Byte),
      finishBy op F s = State.complete code
        { s with dist := d, strength := st, temp := te, verPatch := pa, verMinor := mi, verMajor := ma } ∧
      (code = .success ∨ code = .checksumMismatch ∨ code = .unexpectedResponse ∨ code = .deviceFailure) ∧
      (op ≠ 0x00 → op ≠ 0x04 → d = s.dist ∧ st = s.strength ∧ te = s.temp) ∧
      (op ≠ 0x01 → pa = s.verPatch ∧ mi = s.verMinor ∧ ma = s.verMajor) := by
  cases h with
  | meas h dL dH sL sH tL tH c =>
    refine ⟨_, _, _, _, _, _, _, (if_pos h).trans (State.finishMeasurement_eq ..), by split <;> simp, ?_,
      fun _ => ⟨rfl, rfl, rfl⟩⟩
    exact fun h0 h4 => absurd h (by rintro (h | h); exacts [h0 h, h4 h])
  | echo e1 e2 e3 e4 c =>
    exact ⟨_, _, _, _, _, _, _, State.finishEcho_eq .., by (repeat' split) <;> simp, fun _ _ => ⟨rfl, rfl, rfl⟩,
      fun _ => ⟨rfl, rfl, rfl⟩⟩
  | version r q p m j c =>
    exact ⟨_, _, _, _, _, _, _, State.finishVersion_eq 0x5A r q p m j c s, by (repeat' split) <;> simp, fun _ _ => ⟨rfl, rfl, rfl⟩,
      fun h => absurd rfl h⟩
  | status ctx r q p c =>
    exact ⟨_, _, _, _, _, _, _, (finishBy_status ..).trans (State.finishStatus_eq ctx 0x5A r q p c s),
      by (repeat' split) <;> simp, fun _ _ => ⟨rfl, rfl, rfl⟩, fun _ => ⟨rfl, rfl, rfl⟩⟩

/-- The result of a finishing step is the one that the frame gives its operation (R230). -/
theorem finishBy_result {op : Byte} {F : List Byte} (h : ReadForm op F) (arg : Half) (s : State)
    (hc : s.csumOk = frameVerdict op F) (ht : op = 0x03 → s.txbuf.toList = cmdFrame op arg) :
    (finishBy op F s).result = (judge op arg s.measStrict F).number := by
  cases h with
  | meas h dL dH sL sH tL tH c =>
    have hm : modeOf op = .meas := if_pos h
    rw [finishBy_meas h, State.finishMeasurement_eq, State.complete_result, judge, if_pos hm, ← hc]
  | echo e1 e2 e3 e4 c =>
    rw [finishBy_echo, State.finishEcho_eq, State.complete_result, judge, if_neg (show ¬ modeOf 0x03 = .meas by decide), ← hc,
      ht rfl]
    rfl
  | version r q p m j c =>
    rw [finishBy_version, State.finishVersion_eq, State.complete_result, judge,
      if_neg (show ¬ modeOf 0x01 = .meas by decide), ← hc]
    cases s.csumOk <;> rfl
  | status ctx r q p c =>
    have hm : ¬ modeOf (statusCode ctx) = .meas := by cases ctx <;> decide
    rw [finishBy_status, State.finishStatus_eq, State.complete_result, judge, if_neg hm, ← hc]
    cases ctx <;>
      simp [statusCode, okPair, nakPair, Config.codeReset, Config.codeSave, Config.codeFrameRate, Config.codeVersion]

/-! ## The block's own moves (R44, R256) -/

theorem blockStep_idle {s : State} (hp : s.phase = .idle) : blockStep s = .next s := by
  simp only [blockStep, State.blockMove, hp]

theorem blockStep_wait {s : State} (hp : s.phase = .search ∨ s.phase = .tail) (hq : s.rxq = []) :
    blockStep s = .next s := by
  rcases hp with hp | hp <;> simp only [blockStep, State.blockMove, hp, hq]

theorem blockStep_send {s : State} {v : Byte} {i : Instr} (hp : s.phase = .tx) (h6 : s.txlen.toNat ≤ 6)
    (hd : decodeSent s.txFrame = .ok i) (hv : s.txFrame[s.txidx.toNat]? = some v) : blockStep s = .next (s.txStep v) := by
  have hl := s.txFrame_length h6
  have hi : s.txidx.toNat < s.txlen.toNat := by
    rw [← hl]; exact (List.getElem?_eq_some_iff.mp hv).1
  simp only [blockStep, State.blockMove, hp, if_pos (And.intro hi h6), runFrame, decode, hd]
  rw [(decodeSent_ok hd).2 s, sendFrame_eq hp hl rfl hv]

theorem blockStep_search {s : State} {b : Byte} {q : List Byte} (hp : s.phase = .search) (hq : s.rxq = b :: q) :
    blockStep s = .next (s.searchStep b) := by
  simp only [blockStep, State.blockMove, hp, hq]

theorem blockStep_store {s : State} {b : Byte} {q : List Byte} (hp : s.phase = .tail) (hq : s.rxq = b :: q)
    (hi : s.rxlen.toNat + 1 < s.lexp.toNat) (h9 : s.lexp.toNat ≤ 9) : blockStep s = .next (s.storeByte b) := by
  have h1 : s.rxlen.toNat < s.lexp.toNat ∧ s.lexp.toNat ≤ 9 := by omega
  simp only [blockStep, State.blockMove, hp, hq, if_pos h1, if_neg (Nat.ne_of_lt hi)]

theorem blockStep_finish {s : State} {b : Byte} {q : List Byte} (hp : s.phase = .tail) (hq : s.rxq = b :: q)
    (he : s.rxlen.toNat + 1 = s.lexp.toNat) (h9 : s.lexp.toNat ≤ 9) (hr : ReadForm s.op (s.rxFrame ++ [b])) :
    blockStep s = .next (finishBy s.op (s.rxFrame ++ [b]) (s.storeLast b)) := by
  have h1 : s.rxlen.toNat < s.lexp.toNat ∧ s.lexp.toNat ≤ 9 := by omega
  obtain ⟨i, hd⟩ := hr.decode
  obtain ⟨-, ops, ho, hx⟩ := decodeReceived_ok hd
  have hF : s.frameAtHand = some (s.rxFrame ++ [b], b) := State.frameAtHand_eq he.symm rfl hq
  simp only [blockStep, State.blockMove, hp, hq, if_pos h1, if_pos he, runFrame, decode, hd]
  rw [hx s, readFrame_eq hp ho hF]

/-- Everything the block's own move can do when it goes on. -/
theorem blockStep_next {s t : State} (h : blockStep s = .next t) :
    ((s.phase = .idle ∨ ((s.phase = .search ∨ s.phase = .tail) ∧ s.rxq = [])) ∧ t = s) ∨
    (s.phase = .tx ∧ s.txidx.toNat < s.txlen.toNat ∧ s.txlen.toNat ≤ 6 ∧
      ∃ v, s.txFrame[s.txidx.toNat]? = some v ∧ t = s.txStep v) ∨
    (s.phase = .search ∧ ∃ b q, s.rxq = b :: q ∧ t = s.searchStep b) ∨
    (s.phase = .tail ∧ ∃ b q, s.rxq = b :: q ∧ s.rxlen.toNat + 1 < s.lexp.toNat ∧ s.lexp.toNat ≤ 9 ∧ t = s.storeByte b) ∨
    (s.phase = .tail ∧ ∃ b q, s.rxq = b :: q ∧ s.rxlen.toNat + 1 = s.lexp.toNat ∧ s.lexp.toNat ≤ 9 ∧
      ReadForm s.op (s.rxFrame ++ [b]) ∧ t = finishBy s.op (s.rxFrame ++ [b]) (s.storeLast b)) := by
  unfold blockStep State.blockMove at h
  cases hp : s.phase with
  | idle => rw [hp] at h; exact .inl ⟨.inl rfl, by cases h; rfl⟩
  | tx =>
    rw [hp] at h
    by_cases hi : s.txidx.toNat < s.txlen.toNat ∧ s.txlen.toNat ≤ 6
    · simp only [if_pos hi, runFrame, decode] at h
      split at h
      next i hd =>
        have hl := s.txFrame_length hi.2
        have hv : s.txFrame[s.txidx.toNat]? = some (s.txFrame[s.txidx.toNat]'(by omega)) := List.getElem?_eq_getElem _
        rw [(decodeSent_ok hd).2 s, sendFrame_eq hp hl rfl hv] at h
        exact .inr (.inl ⟨rfl, hi.1, hi.2, _, hv, by cases h; rfl⟩)
      next => cases h
    · simp only [if_neg hi] at h; cases h
  | search =>
    rw [hp] at h
    cases hq : s.rxq with
    | nil => rw [hq] at h; exact .inl ⟨.inr ⟨.inl rfl, rfl⟩, by cases h; rfl⟩
    | cons b q => rw [hq] at h; exact .inr (.inr (.inl ⟨rfl, b, q, rfl, by cases h; rfl⟩))
  | tail =>
    rw [hp] at h
    cases hq : s.rxq with
    | nil => rw [hq] at h; exact .inl ⟨.inr ⟨.inr rfl, rfl⟩, by cases h; rfl⟩
    | cons b q =>
      rw [hq] at h
      by_cases hi : s.rxlen.toNat < s.lexp.toNat ∧ s.lexp.toNat ≤ 9
      · by_cases he : s.rxlen.toNat + 1 = s.lexp.toNat
        · simp only [if_pos hi, if_pos he, runFrame, decode] at h
          split at h
          next i hd =>
            obtain ⟨hr, ops, ho, hx⟩ := decodeReceived_ok hd
            have hF : s.frameAtHand = some (s.rxFrame ++ [b], b) := State.frameAtHand_eq he.symm rfl hq
            rw [hx s, readFrame_eq hp ho hF] at h
            exact .inr (.inr (.inr (.inr ⟨rfl, b, q, rfl, he, hi.2, hr, by cases h; rfl⟩)))
          next => cases h
        · simp only [if_pos hi, if_neg he] at h
          exact .inr (.inr (.inr (.inl ⟨rfl, b, q, rfl, by omega, hi.2, by cases h; rfl⟩)))
      · simp only [if_neg hi] at h; cases h

/-! ## The four labels (R16) -/

theorem State.dropEvent_of_nil {s : State} (h : s.env = []) : s.dropEvent = s := by
  cases s; cases h; rfl

theorem State.dropEvent_of_cons {s : State} {e : Event} {rest : List Event} (h : s.env = e :: rest) :
    s.dropEvent = { s with env := rest } := by
  rw [State.dropEvent, h]
  rfl

/-- With no event left a step is the block's own move. -/
theorem step_of_nil {s : State} (h : s.env = []) : step s = blockStep s := by
  rw [step, State.nextEvent, State.dropEvent_of_nil h, h]
  rfl

/-- A word the host presents: whatever its code, the step is the ISSUE step (R221, R222, R229). -/
theorem runWord_eq (w : OpWord) (s : State) : runWord w s = .next (s.issue (opOf w) (argOf w)) := by
  simp only [runWord, decode, decodeWord]
  (repeat' split) <;> rename_i h <;> (repeat' split at h) <;> cases h <;> first | rfl | (simp_all only [exec]; rfl)

/-- Everything a step can do when it goes on. -/
theorem step_next {s t : State} (h : step s = .next t) :
    (∃ w, s.nextEvent.1 = .issue w ∧ t = s.dropEvent.issue (opOf w) (argOf w)) ∨
    (∃ b, s.nextEvent.1 = .deliver b ∧ t = s.dropEvent.deliver b) ∨
    (s.nextEvent.1 = .hwReset ∧ t = s.dropEvent.hwReset) ∨
    (s.nextEvent.1 = .block ∧ blockStep s.dropEvent = .next t) := by
  unfold step State.nextEvent at h
  unfold State.nextEvent
  cases he : s.env.headD .block with
  | issue w => rw [he] at h; simp only [runWord_eq] at h; exact .inl ⟨w, rfl, by cases h; rfl⟩
  | deliver b => rw [he] at h; exact .inr (.inl ⟨b, rfl, by cases h; rfl⟩)
  | hwReset => rw [he] at h; exact .inr (.inr (.inl ⟨rfl, by cases h; rfl⟩))
  | block => rw [he] at h; exact .inr (.inr (.inr ⟨rfl, h⟩))

/-! ## What the host reads as a Measurement (R52) -/

theorem State.of_measurement {s : State} {m : Measurement} (h : s.measurement = some m) :
    s.done = true ∧ modeOf s.op = .meas ∧ s.succeeded = true ∧
      m = { dist := s.dist, strength := s.strength, temp := s.temp.toInt } := by
  unfold State.measurement at h
  split at h
  next hc => exact ⟨hc.1, hc.2.1, hc.2.2, (Option.some.inj h).symm⟩
  next => cases h

/-- The temperature register read as a signed number is the temperature (R169, R170). -/
theorem tempRegister_toInt (raw : Half) : (tempRegister (temperature raw)).toInt = temperature raw := by
  have := raw.isLt
  simp only [tempRegister, temperature, tdiv, Config.tempDiv, Config.tempOffset]
  rw [if_pos (by omega), BitVec.toInt_ofInt]
  apply Int.bmod_eq_of_le <;> omega

end Sys2Proof.Machine
end

