-- ==== Sys2Proof/Laws/Reader.lean ====
section
/-! SUPPORT. The pure readers, one byte at a time, and the checksum verdict on a complete frame. -/

namespace Sys2Proof.Machine

/-! ## Command mode (R191, R192) -/

theorem readCmd_nil (L cnt : Nat) : readCmd L cnt [] = .starved := rfl

theorem readCmd_header (L cnt : Nat) (q : List Byte) :
    readCmd L cnt (0x5A :: q) = readTail [0x5A] (L - 1) cnt q := if_pos rfl

theorem readCmd_skip (L : Nat) {cnt : Nat} {b : Byte} (hb : b ≠ 0x5A) (hc : cnt ≠ 30) (q : List Byte) :
    readCmd L cnt (b :: q) = readCmd L (cnt + 1) q := (if_neg hb).trans (if_neg hc)

theorem readCmd_full (L : Nat) {cnt : Nat} {b : Byte} (hb : b ≠ 0x5A) (hc : cnt = 30) (q : List Byte) :
    readCmd L cnt (b :: q) = .notFound q := (if_neg hb).trans (if_pos hc)

/-! ## Measurement mode (R194, R195) -/

theorem readMeas_nil (cnt : Nat) (p : Bool) : readMeas cnt p [] = .starved := rfl

theorem readMeas_header (cnt : Nat) (q : List Byte) :
    readMeas cnt true (0x59 :: q) = readTail [0x59, 0x59] 7 cnt q := (if_pos rfl).trans (if_pos rfl)

theorem readMeas_first (cnt : Nat) (q : List Byte) : readMeas cnt false (0x59 :: q) = readMeas cnt true q :=
  (if_pos rfl).trans (if_neg Bool.false_ne_true)

theorem readMeas_skip {cnt : Nat} (p : Bool) {b : Byte} (hb : b ≠ 0x59) (hc : cnt ≠ 30) (q : List Byte) :
    readMeas cnt p (b :: q) = readMeas (cnt + 1) false q := (if_neg hb).trans (if_neg hc)

theorem readMeas_full {cnt : Nat} (p : Bool) {b : Byte} (hb : b ≠ 0x59) (hc : cnt = 30) (q : List Byte) :
    readMeas cnt p (b :: q) = .notFound q := (if_neg hb).trans (if_pos hc)

/-! ## The verdict -/

/-- The accumulator's verdict on the last byte is the verdict of the checksum function on the whole frame (R158). -/
theorem sum8_beq_last {op : Byte} {G : List Byte} {b : Byte} (h : ReadForm op (G ++ [b])) :
    (sum8 G == b) = frameVerdict op (G ++ [b]) := by
  generalize hF : G ++ [b] = F at h
  have key : ∀ (G' : List Byte) (c : Byte), G ++ [b] = G' ++ [c] → G = G' ∧ b = c := fun G' c h => by
    simpa using List.append_inj' h rfl
  cases h with
  | meas h dL dH sL sH tL tH c =>
    obtain ⟨rfl, rfl⟩ := key [0x59, 0x59, dL, dH, sL, sH, tL, tH] c hF
    rw [frameVerdict, show modeOf op = .meas from if_pos h]
    rfl
  | echo e1 e2 e3 e4 c =>
    obtain ⟨rfl, rfl⟩ := key [0x5A, e1, e2, e3, e4] c hF
    rfl
  | version r q p m j c =>
    obtain ⟨rfl, rfl⟩ := key [0x5A, r, q, p, m, j] c hF
    rfl
  | status ctx r q p c =>
    obtain ⟨rfl, rfl⟩ := key [0x5A, r, q, p] c hF
    cases ctx <;> rfl

end Sys2Proof.Machine
end

