-- ==== Sys2Proof/Tests/Slice0.lean ====
section
/-! SUPPORT. Tests: expected values are the spec's own examples (spec/95_test_vectors.md, cited by vector) or worked out by hand
from its encoding tables. Below them, one witness for the hypotheses of every statement. -/

namespace Sys2Proof.Tests

open Sys2Proof.Machine

/-! ## Helpers -/

/-- A part of the next state, none where the step does not go on. -/
def part {α : Type} (f : State → α) : Host.Outcome State Fault Refusal → Option α
  | .next s => some (f s)
  | .fault _ => none
  | .refused _ => none

/-- Sending the frame `F` of the operation `op`, `n` bytes put. -/
def sending (op : Byte) (F : List Byte) (n : BitVec 3) : State :=
  { State.reset with
    op := op, busy := true, txbuf := loadTx F State.reset.txbuf, txlen := BitVec.ofNat 3 F.length, txidx := n, phase := .tx
    mode := modeOf op, lexp := lexpOf op }

/-- Searching for the header of `op`, `n` bytes discarded, `q` pending. -/
def searching (op : Byte) (n : BitVec 5) (q : List Byte) : State :=
  { State.reset with
    op := op, busy := true, phase := .search, mode := modeOf op, lexp := lexpOf op, cnt := n, rxq := q }

/-- Reading the tail of a frame of `op`, `G` stored, `q` pending. -/
def reading (op : Byte) (G q : List Byte) : State :=
  { State.reset with
    op := op, busy := true, phase := .tail, mode := modeOf op, lexp := lexpOf op
    rxbuf := Vector.ofFn fun i => G.getD i 0, rxlen := BitVec.ofNat 4 G.length, acc := sum8 G, rxq := q }

/-- The command frame 5A 06 03 04 00 67 of SET_FRAME_RATE 4 in TXBUF (EX2). -/
def withEcho (s : State) : State := { s with txbuf := #v[0x5A, 0x06, 0x03, 0x04, 0x00, 0x67], txlen := 6, txidx := 6 }

/-! ## Well-formedness: each check refuses an ill-formed term -/

theorem test_wellFormed_refuses_checksum : (Instr.cmdFrameRate 0x04 0x00 0x68).wellFormed = false := by decide
theorem test_wellFormed_accepts_checksum : (Instr.cmdFrameRate 0x04 0x00 0x67).wellFormed = true := by decide
theorem test_wellFormed_refuses_reset_ok : (Instr.rspStatusOther .systemReset 4 2 0x00 0x60).wellFormed = false := by decide
theorem test_wellFormed_refuses_reset_fail : (Instr.rspStatusOther .systemReset 4 2 0x01 0x61).wellFormed = false := by decide
theorem test_wellFormed_refuses_save_ok : (Instr.rspStatusOther .saveSettings 5 0x11 0x00 0x70).wellFormed = false := by decide
theorem test_wellFormed_refuses_save_fail : (Instr.rspStatusOther .saveSettings 5 0x11 0x01 0x71).wellFormed = false := by decide
theorem test_wellFormed_accepts_other_context : (Instr.rspStatusOther .saveSettings 4 2 0x00 0x60).wellFormed = true := by decide

/-! ## Decoding: a word of every constructor, written out from the spec's encoding (R91, R95 to R101) -/

theorem test_decode_getMeasurement : decode (.word 0b000000001111000011110000) = .ok (.getMeasurement 0xF0F0) := by decide
theorem test_decode_getVersion : decode (.word 0b000000010000000000000001) = .ok (.getVersion 1) := by decide
theorem test_decode_systemReset : decode (.word 0b000000101000000000000000) = .ok (.systemReset 0x8000) := by decide
theorem test_decode_setFrameRate : decode (.word 0b000000110000000000000100) = .ok (.setFrameRate 4) := by decide
theorem test_decode_triggerMeasurement : decode (.word 0b000001000000000000000000) = .ok (.triggerMeasurement 0) := by decide
theorem test_decode_saveSettings : decode (.word 0b000100011111111111111111) = .ok (.saveSettings 0xFFFF) := by decide
theorem test_decode_reserved : decode (.word 0b000100100000000000000000) = .error (.reservedOperation 0x12) := by decide
theorem test_decode_cmdVersion : decode (.sent [0x5A, 0x04, 0x01, 0x5F]) = .ok .cmdVersion := by decide
theorem test_decode_cmdReset : decode (.sent [0x5A, 0x04, 0x02, 0x60]) = .ok .cmdReset := by decide
theorem test_decode_cmdFrameRate : decode (.sent [0x5A, 0x06, 0x03, 0xE8, 0x03, 0x4E]) = .ok (.cmdFrameRate 0xE8 0x03 0x4E) := by
  decide
theorem test_decode_cmdTrigger : decode (.sent [0b01011010, 0b00000100, 0b00000100, 0b01100010]) = .ok .cmdTrigger := by decide
theorem test_decode_cmdSave : decode (.sent [0x5A, 0x04, 0x11, 0x6F]) = .ok .cmdSave := by decide
theorem test_decode_sent_refused : decode (.sent [0x5A, 0x04, 0x05, 0x63]) = .error .notACommandFrame := by decide
theorem test_decode_meas : decode (.received 0x00 [0b01011001, 0b01011001, 1, 2, 3, 4, 5, 6, 7]) = .ok (.meas 1 2 3 4 5 6 7) := by
  decide
theorem test_decode_meas_trigger : decode (.received 0x04 [0x59, 0x59, 1, 2, 3, 4, 5, 6, 7]) = .ok (.meas 1 2 3 4 5 6 7) := by
  decide
theorem test_decode_rspEcho : decode (.received 0x03 [0b01011010, 1, 2, 3, 4, 5]) = .ok (.rspEcho 1 2 3 4 5) := by decide
theorem test_decode_rspStatusResetOk : decode (.received 0x02 [0x5A, 4, 2, 0x00, 0x60]) = .ok (.rspStatusResetOk 4 2) := by decide
theorem test_decode_rspStatusResetFail : decode (.received 0x02 [0x5A, 4, 2, 0x01, 0x61]) = .ok (.rspStatusResetFail 4 2) := by
  decide
theorem test_decode_rspStatusSaveOk : decode (.received 0x11 [0x5A, 5, 0x11, 0x00, 0x70]) = .ok (.rspStatusSaveOk 5 0x11) := by
  decide
theorem test_decode_rspStatusSaveFail : decode (.received 0x11 [0x5A, 5, 0x11, 0x01, 0x71]) = .ok (.rspStatusSaveFail 5 0x11) := by
  decide
theorem test_decode_rspStatusOther :
    decode (.received 0x02 [0x5A, 5, 2, 0x00, 0x61]) = .ok (.rspStatusOther .systemReset 5 2 0x00 0x61) := by decide
theorem test_decode_rspStatusOther_save :
    decode (.received 0x11 [0x5A, 5, 2, 0x00, 0x60]) = .ok (.rspStatusOther .saveSettings 5 2 0x00 0x60) := by decide
theorem test_decode_rspVersion : decode (.received 0x01 [0x5A, 1, 2, 3, 4, 5, 6]) = .ok (.rspVersion 1 2 3 4 5 6) := by decide
theorem test_decode_header_missing : decode (.received 0x01 [0x59, 1, 2, 3, 4, 5, 6]) = .error .notAResponseFrame := by decide

/-- The table's numbering of the bits: match and mask of rows CMD_FRAME_RATE and RSP.STATUS.SAVE_FAIL. -/
theorem test_table_cmdFrameRate : decodeTableWord 48 0x5A0603FF0062 = some (.cmdFrameRate 0xFF 0x00 0x62) := by decide
theorem test_table_saveFail : decodeTableWord 40 0x5A05110171 = some (.rspStatusSaveFail 0x05 0x11) := by decide
theorem test_table_meas : decodeTableWord 72 0x5959640000000000C8 = some (.meas 0x64 0 0 0 0 0 0xC8) := by decide
theorem test_fetch_word : part (fun s => (s.op, s.phase)) (step (State.reset.withFetchWord 24 0x030004)) = some (0x03, .tx) := by
  decide
theorem test_fetch_frame : part State.txlog (step (State.reset.withFetchWord 32 0x5A04015F)) = some [0x5A] := by decide
theorem test_fetch_response : part State.result (step (State.reset.withFetchWord 40 0x5A05110171)) = some 5 := by decide

/-! ## One step of every instruction -/

/-- R235: nothing is sent, the search begins. -/
theorem test_getMeasurement : part (fun s => (s.phase, s.mode, s.lexp)) (exec (.getMeasurement 7) State.reset) =
    some (.search, .meas, 9) := by decide
/-- R245, EC1. -/
theorem test_getVersion : part (fun s => (s.txFrame, s.lexp)) (exec (.getVersion 0) State.reset) =
    some ([0x5A, 0x04, 0x01, 0x5F], 7) := by decide
/-- R248, EC2. -/
theorem test_systemReset : part (fun s => (s.txFrame, s.lexp)) (exec (.systemReset 0) State.reset) =
    some ([0x5A, 0x04, 0x02, 0x60], 5) := by decide
/-- R240, EC9: the sum wraps. -/
theorem test_setFrameRate_wraps : part State.txFrame (exec (.setFrameRate 0xFFFF) State.reset) =
    some [0x5A, 0x06, 0x03, 0xFF, 0xFF, 0x61] := by decide
/-- R240, EC10: low byte first. -/
theorem test_setFrameRate_order : part (fun s => (s.txFrame, s.arg)) (exec (.setFrameRate 1000) State.reset) =
    some ([0x5A, 0x06, 0x03, 0xE8, 0x03, 0x4E], 1000) := by decide
/-- R238, EX1. -/
theorem test_triggerMeasurement : part (fun s => (s.txFrame, s.mode)) (exec (.triggerMeasurement 0) State.reset) =
    some ([0x5A, 0x04, 0x04, 0x62], .meas) := by decide
/-- R251, EC4. -/
theorem test_saveSettings : part (fun s => (s.txFrame, s.lexp)) (exec (.saveSettings 0) State.reset) =
    some ([0x5A, 0x04, 0x11, 0x6F], 5) := by decide
/-- R222: an ISSUE while busy only marks OVR. -/
theorem test_busy_overrun : part (fun s => (s.ovr, s.op)) (exec (.saveSettings 0) (searching 0x00 3 [])) = some (true, 0x00) := by
  decide
/-- R229: a reserved code completes at once. -/
theorem test_reserved_code : part (fun s => (s.result, s.done, s.op))
    (step { State.reset with env := [.issue 0x050000] }) = some (6, true, 0x05) := by decide
/-- R223: a byte of the frame. -/
theorem test_cmdVersion : part (fun s => (s.txlog, s.txidx)) (exec .cmdVersion (sending 0x01 [0x5A, 0x04, 0x01, 0x5F] 2)) =
    some ([0x01], 3) := by decide
theorem test_cmdReset : part (fun s => (s.txlog, s.phase)) (exec .cmdReset (sending 0x02 [0x5A, 0x04, 0x02, 0x60] 3)) =
    some ([0x60], .search) := by decide
theorem test_cmdFrameRate : part (fun s => (s.txlog, s.phase))
    (exec (.cmdFrameRate 0x04 0x00 0x67) (sending 0x03 [0x5A, 0x06, 0x03, 0x04, 0x00, 0x67] 5)) = some ([0x67], .search) := by decide
theorem test_cmdTrigger : part (fun s => (s.txlog, s.phase)) (exec .cmdTrigger (sending 0x04 [0x5A, 0x04, 0x04, 0x62] 0)) =
    some ([0x5A], .tx) := by decide
theorem test_cmdSave : part (fun s => (s.txlog, s.txidx)) (exec .cmdSave (sending 0x11 [0x5A, 0x04, 0x11, 0x6F] 2)) =
    some ([0x11], 3) := by decide
/-- M9, EX4: raw temperature 2047 is -1. -/
theorem test_meas : part (fun s => (s.dist, s.strength, s.temp))
    (exec (.meas 0x2C 0x01 0xD0 0x07 0xFF 0x07 0xBC) (reading 0x00 [0x59, 0x59, 0x2C, 0x01, 0xD0, 0x07, 0xFF, 0x07] [0xBC])) =
    some (300, 2000, 0xFFFF) := by decide
/-- T14: a bad checksum is reported and ignored. -/
theorem test_meas_ignored_checksum : part (fun s => (s.result, s.csumOk))
    (exec (.meas 0x64 0 0xE8 3 0 8 0) (reading 0x04 [0x59, 0x59, 0x64, 0, 0xE8, 3, 0, 8] [0])) = some (0, false) := by decide
/-- T15: not under MEAS_STRICT; the outputs are still written. -/
theorem test_meas_strict : part (fun s => (s.result, s.dist))
    (exec (.meas 0x64 0 0xE8 3 0 8 0) { reading 0x04 [0x59, 0x59, 0x64, 0, 0xE8, 3, 0, 8] [0] with measStrict := true }) =
    some (2, 100) := by decide
/-- EX3. -/
theorem test_rspEcho : part (fun s => (s.result, s.csumOk))
    (exec (.rspEcho 0x06 0x03 0x04 0x00 0x67) (withEcho (reading 0x03 [0x5A, 0x06, 0x03, 0x04, 0x00] [0x67]))) = some (0, true) := by
  decide
/-- R241: two changes that cancel in the sum (K16). -/
theorem test_rspEcho_unexpected : part (fun s => (s.result, s.csumOk))
    (exec (.rspEcho 0x06 0x03 0x03 0x01 0x67) (withEcho (reading 0x03 [0x5A, 0x06, 0x03, 0x03, 0x01] [0x67]))) = some (3, true) := by
  decide
/-- R248: received 5A 04 02 00 60. -/
theorem test_rspStatusResetOk : part State.result (exec (.rspStatusResetOk 4 2) (reading 0x02 [0x5A, 4, 2, 0] [0x60])) = some 0 := by
  decide
/-- R250: 5A 05 02 00 60 ends as ChecksumMismatch. -/
theorem test_rspStatusResetOk_checksum : part State.result (exec (.rspStatusResetOk 5 2) (reading 0x02 [0x5A, 5, 2, 0] [0x60])) =
    some 2 := by decide
theorem test_rspStatusResetFail : part State.result (exec (.rspStatusResetFail 4 2) (reading 0x02 [0x5A, 4, 2, 1] [0x61])) =
    some 5 := by decide
/-- R251. -/
theorem test_rspStatusSaveOk : part State.result (exec (.rspStatusSaveOk 5 0x11) (reading 0x11 [0x5A, 5, 0x11, 0] [0x70])) = some 0 := by
  decide
theorem test_rspStatusSaveFail : part State.result (exec (.rspStatusSaveFail 5 0x11) (reading 0x11 [0x5A, 5, 0x11, 1] [0x71])) =
    some 5 := by decide
/-- R250: 5A 05 02 00 61 is UnexpectedResponse. -/
theorem test_rspStatusOther : part State.result
    (exec (.rspStatusOther .systemReset 5 2 0 0x61) (reading 0x02 [0x5A, 5, 2, 0] [0x61])) = some 3 := by decide
/-- R251: 5A 05 11 02 72. -/
theorem test_rspStatusOther_save : part State.result
    (exec (.rspStatusOther .saveSettings 5 0x11 2 0x72) (reading 0x11 [0x5A, 5, 0x11, 2] [0x72])) = some 3 := by decide
/-- R245: received 5A 07 01 02 03 01 68. -/
theorem test_rspVersion : part (fun s => (s.result, s.verPatch, s.verMinor, s.verMajor))
    (exec (.rspVersion 7 1 2 3 1 0x68) (reading 0x01 [0x5A, 7, 1, 2, 3, 1] [0x68])) = some (0, 2, 3, 1) := by decide
/-- R246: the registers are written whatever the verdict. -/
theorem test_rspVersion_checksum : part (fun s => (s.result, s.verPatch, s.verMajor))
    (exec (.rspVersion 7 1 2 3 1 0x69) (reading 0x01 [0x5A, 7, 1, 2, 3, 1] [0x69])) = some (2, 2, 1) := by decide

/-! ## The byte steps that no instruction stands for -/

/-- S6: in command mode the first 5A is the header. -/
theorem test_search_header : part (fun s => (s.phase, s.acc)) (step (searching 0x11 0 [0x5A, 0x5A])) = some (.tail, 0x5A) := by decide
/-- S3, S4: the 30th byte is discarded, the 31st ends the search. -/
theorem test_search_thirtieth : part (fun s => (s.phase, s.cnt)) (step (searching 0x11 29 [0x01])) = some (.search, 30) := by decide
theorem test_search_fails : part (fun s => (s.result, s.cnt)) (step (searching 0x11 30 [0x01])) = some (1, 31) := by decide
/-- T5: a single 59 is not counted. -/
theorem test_search_single : part (fun s => (s.prev59, s.cnt)) (step (searching 0x00 30 [0x59])) = some (true, 30) := by decide
/-- The streaming sums of K20: FE, then 01. -/
theorem test_tail_sum : part (fun s => (s.acc, s.rxlen)) (step (reading 0x00 [0x59, 0x59, 0x64, 0x00, 0xE8] [0x03])) = some (0x01, 6) := by
  decide
/-- S8: an operation without bytes waits. -/
theorem test_wait : part id (step (searching 0x11 0 [])) = some (searching 0x11 0 []) := by decide


/-- R201: `READ_CMD_FRAME` on the good and on the bad frame of R152, and at the shortest length (R153). -/
theorem test_readCmdFrame_good :
    readCmdFrame 5 [0x59, 0x5A, 0x05, 0x11, 0x00, 0x70, 9] = .ok (.goodFrame 1 [0x5A, 0x05, 0x11, 0x00, 0x70] [9]) := by decide
theorem test_readCmdFrame_bad :
    readCmdFrame 5 [0x5A, 0x05, 0x02, 0x00, 0x60] = .ok (.badChecksum 0 [0x5A, 0x05, 0x02, 0x00, 0x60] []) := by decide
theorem test_readCmdFrame_shortest : readCmdFrame 2 [0x5A, 0x5A] = .ok (.goodFrame 0 [0x5A, 0x5A] []) := by decide
theorem test_readCmdFrame_domain : readCmdFrame 1 [0x5A] = .error .malformedFrame := by decide
/-- R261: what stands beside the code of SYSTEM_RESET on 5A 05 02 00 61 after one discarded byte. -/
theorem test_resultRecord :
    (part State.resultRecord
        (exec (.rspStatusOther .systemReset 5 2 0 0x61)
          { reading 0x02 [0x5A, 5, 2, 0] [0x61] with cnt := 1, txbuf := loadTx cmdResetFrame State.reset.txbuf, txlen := 4 })).join =
      some { op := 0x02, arg := 0, rxlen := 5, frame := [0x5A, 5, 2, 0, 0x61], csumOk := true, cnt := 1
             command := [0x5A, 0x04, 0x02, 0x60] } := by decide
/-- R116, EX2. -/
theorem test_text : operationText (.setFrameRate 4) = some "SET_FRAME_RATE 4" := by decide

/-! ## Witnesses: a concrete input for the hypotheses of every statement, at the edges of their ranges -/

/-- `s` with the events `es` to come. -/
def told (es : List Event) (s : State) : State := { s with env := es }

/-- `s` after an operation that ended with Success. -/
def completed (s : State) : State := { s with busy := false, done := true, phase := .idle }

theorem witness_DecodeReadsBackEncode : (Instr.cmdFrameRate 0xFF 0xFF 0x61).wellFormed = true ∧
    (Instr.rspStatusOther .systemReset 0x05 0x02 0x00 0x61).wellFormed = true := by decide
theorem witness_EncodeWritesBackDecode : decode (.received 0x11 [0x5A, 0, 0, 0x01, 0x71]) = .ok (.rspStatusSaveFail 0 0) ∧
    decode (.received 0x04 [0x59, 0x59, 0, 0, 0, 0, 0, 0, 0]) = .ok (.meas 0 0 0 0 0 0 0) := by decide
theorem witness_ReservedCodesAreRefusedByName : decode (.word 0x050000) = .error (.reservedOperation 0x05) ∧
    decode (.word 0xFFFFFF) = .error (.reservedOperation 0xFF) := by decide
theorem witness_StepRunsTheDecodedInstruction_word :
    (told [.issue 0x030004, .block] State.reset).env = .issue 0x030004 :: [.block] ∧
      decode (.word 0x030004) = .ok (.setFrameRate 4) := ⟨rfl, by decide⟩
/-- The last byte of the longest frame. -/
theorem witness_StepRunsTheDecodedInstruction_sent :
    let s := sending 0x03 [0x5A, 0x06, 0x03, 0x00, 0x00, 0x63] 5
    s.nextEvent = (.block, s) ∧ s.phase = .tx ∧ s.txidx.toNat < s.txlen.toNat ∧ s.txlen.toNat ≤ 6 ∧
      decode (.sent (s.txbuf.toList.take s.txlen.toNat)) = .ok (.cmdFrameRate 0x00 0x00 0x63) := ⟨rfl, by decide⟩
/-- The longest frame read, and the shortest. -/
theorem witness_StepRunsTheDecodedInstruction_received :
    let s := reading 0x00 [0x59, 0x59, 0, 0, 0, 0, 0, 0] [0xB2, 1]
    s.nextEvent = (.block, s) ∧ s.phase = .tail ∧ s.rxq = 0xB2 :: [1] ∧ s.rxlen.toNat + 1 = s.lexp.toNat ∧ s.lexp.toNat ≤ 9 ∧
      decode (.received s.op (s.rxbuf.toList.take s.rxlen.toNat ++ [0xB2])) = .ok (.meas 0 0 0 0 0 0 0xB2) := ⟨rfl, by decide⟩
theorem witness_StepRunsTheDecodedInstruction_received_short :
    let s := reading 0x02 [0x5A, 4, 2, 0] [0x60]
    s.nextEvent = (.block, s) ∧ s.phase = .tail ∧ s.rxq = 0x60 :: [] ∧ s.rxlen.toNat + 1 = s.lexp.toNat ∧ s.lexp.toNat ≤ 9 ∧
      decode (.received s.op (s.rxbuf.toList.take s.rxlen.toNat ++ [0x60])) = .ok (.rspStatusResetOk 4 2) := ⟨rfl, by decide⟩
theorem witness_StepFollowsTheEvents : State.reset.env = [] ∧
    (told [.hwReset, .block] State.reset).env = .hwReset :: [.block] := ⟨rfl, rfl⟩
theorem witness_DeliverAppendsOneByte :
    (told [.deliver 7] (searching 0x00 0 [1])).nextEvent = (.deliver 7, searching 0x00 0 [1]) := rfl
theorem witness_BlockWaitsWithoutChange_idle : State.reset.nextEvent = (.block, State.reset) ∧ State.reset.phase = .idle :=
  ⟨rfl, rfl⟩
theorem witness_BlockWaitsWithoutChange_search :
    let s := searching 0x01 30 []
    s.nextEvent = (.block, s) ∧ s.phase = .search ∧ s.rxq = [] := ⟨rfl, by decide⟩
theorem witness_BlockWaitsWithoutChange_tail :
    let s := reading 0x01 [0x5A] []
    s.nextEvent = (.block, s) ∧ s.phase = .tail ∧ s.rxq = [] := ⟨rfl, by decide⟩
theorem witness_AcceptedIssueStartsTheOperation : (completed (reading 0x02 [0x5A, 4, 2, 0, 0x60] [1])).busy = false := rfl
/-- The first reserved code and the last. -/
theorem witness_AcceptedIssueStartsTheOperation_reserved :
    (told [.issue 0x050000] State.reset).nextEvent = (.issue 0x050000, State.reset) ∧ State.reset.busy = false ∧
      (0x050000 : OpWord).extractLsb' 16 8 ∉ ([0x00, 0x01, 0x02, 0x03, 0x04, 0x11] : List Byte) ∧
      (0xFFFFFF : OpWord).extractLsb' 16 8 ∉ ([0x00, 0x01, 0x02, 0x03, 0x04, 0x11] : List Byte) := ⟨rfl, by decide⟩
theorem witness_IssueWhileBusyOnlyMarksOverrun :
    (told [.issue 0x050000] (searching 0x01 3 [])).nextEvent = (.issue 0x050000, searching 0x01 3 []) ∧
      (searching 0x01 3 []).busy = true := ⟨rfl, rfl⟩
theorem witness_SentFramePutsItsNextByte_version :
    let s := sending 0x01 [0x5A, 0x04, 0x01, 0x5F] 0
    s.phase = .tx ∧ s.txlen.toNat = 4 ∧ s.txbuf.toList.take s.txlen.toNat = [0x5A, 0x04, 0x01, 0x5F] ∧
      ([0x5A, 0x04, 0x01, 0x5F] : List Byte)[s.txidx.toNat]? = some 0x5A := by decide
theorem witness_SentFramePutsItsNextByte_reset :
    let s := sending 0x02 [0x5A, 0x04, 0x02, 0x60] 3
    s.phase = .tx ∧ s.txlen.toNat = 4 ∧ s.txbuf.toList.take s.txlen.toNat = [0x5A, 0x04, 0x02, 0x60] ∧
      ([0x5A, 0x04, 0x02, 0x60] : List Byte)[s.txidx.toNat]? = some 0x60 := by decide
theorem witness_SentFramePutsItsNextByte_trigger :
    let s := sending 0x04 [0x5A, 0x04, 0x04, 0x62] 3
    s.phase = .tx ∧ s.txlen.toNat = 4 ∧ s.txbuf.toList.take s.txlen.toNat = [0x5A, 0x04, 0x04, 0x62] ∧
      ([0x5A, 0x04, 0x04, 0x62] : List Byte)[s.txidx.toNat]? = some 0x62 := by decide
theorem witness_SentFramePutsItsNextByte_save :
    let s := sending 0x11 [0x5A, 0x04, 0x11, 0x6F] 0
    s.phase = .tx ∧ s.txlen.toNat = 4 ∧ s.txbuf.toList.take s.txlen.toNat = [0x5A, 0x04, 0x11, 0x6F] ∧
      ([0x5A, 0x04, 0x11, 0x6F] : List Byte)[s.txidx.toNat]? = some 0x5A := by decide
theorem witness_SentFramePutsItsNextByte_frameRate :
    let s := sending 0x03 [0x5A, 0x06, 0x03, 0xFF, 0x00, 0x62] 5
    s.phase = .tx ∧ s.txlen.toNat = 6 ∧ s.txbuf.toList.take s.txlen.toNat = [0x5A, 0x06, 0x03, 0xFF, 0x00, 0x62] ∧
      ([0x5A, 0x06, 0x03, 0xFF, 0x00, 0x62] : List Byte)[s.txidx.toNat]? = some 0x62 := by decide
theorem witness_WholeCommandFrameIsSent :
    let s := State.reset.issue 0x03 4
    s.Inv ∧ s.phase = .tx ∧ s.txidx = 0 ∧ s.env = [] := by decide
/-- A header, the 30th discarded byte, and the 31st. -/
theorem witness_CommandSearchStep_header :
    let s := searching 0x03 30 [0x5A, 9]
    s.nextEvent = (.block, s) ∧ s.phase = .search ∧ s.mode = .cmd ∧ s.rxq = 0x5A :: [9] := ⟨rfl, by decide⟩
theorem witness_CommandSearchStep_discard :
    let s := searching 0x03 29 [0x59]
    s.nextEvent = (.block, s) ∧ s.phase = .search ∧ s.mode = .cmd ∧ s.rxq = 0x59 :: [] ∧ s.cnt.toNat < 30 := ⟨rfl, by decide⟩
theorem witness_CommandSearchStep_timeout :
    let s := searching 0x03 30 [0x59]
    s.nextEvent = (.block, s) ∧ s.phase = .search ∧ s.mode = .cmd ∧ s.rxq = 0x59 :: [] ∧ s.cnt = 30 := ⟨rfl, by decide⟩
theorem witness_MeasurementSearchStep_header :
    let s := { searching 0x04 30 [0x59] with prev59 := true }
    s.nextEvent = (.block, s) ∧ s.phase = .search ∧ s.mode = .meas ∧ s.rxq = 0x59 :: [] ∧ s.prev59 = true := ⟨rfl, by decide⟩
theorem witness_MeasurementSearchStep_first :
    let s := searching 0x04 30 [0x59]
    s.nextEvent = (.block, s) ∧ s.phase = .search ∧ s.mode = .meas ∧ s.rxq = 0x59 :: [] ∧ s.prev59 = false := ⟨rfl, by decide⟩
theorem witness_MeasurementSearchStep_discard :
    let s := { searching 0x04 29 [0x5A] with prev59 := true }
    s.nextEvent = (.block, s) ∧ s.phase = .search ∧ s.mode = .meas ∧ s.rxq = 0x5A :: [] ∧ s.cnt.toNat < 30 := ⟨rfl, by decide⟩
theorem witness_MeasurementSearchStep_timeout :
    let s := { searching 0x00 30 [0x5A] with prev59 := true }
    s.nextEvent = (.block, s) ∧ s.phase = .search ∧ s.mode = .meas ∧ s.rxq = 0x5A :: [] ∧ s.cnt = 30 := ⟨rfl, by decide⟩
/-- The first tail byte of the shortest frame and the last but one of the longest. -/
theorem witness_TailByteIsStoredAndSummed :
    let s := reading 0x02 [0x5A] [0x5A]
    s.nextEvent = (.block, s) ∧ s.phase = .tail ∧ s.rxq = 0x5A :: [] ∧ s.rxlen.toNat + 1 < s.lexp.toNat ∧ s.lexp.toNat ≤ 9 :=
  ⟨rfl, by decide⟩
theorem witness_TailByteIsStoredAndSummed_long :
    let s := reading 0x00 [0x59, 0x59, 1, 2, 3, 4, 5] [0x5A]
    s.nextEvent = (.block, s) ∧ s.phase = .tail ∧ s.rxq = 0x5A :: [] ∧ s.rxlen.toNat + 1 < s.lexp.toNat ∧ s.lexp.toNat ≤ 9 :=
  ⟨rfl, by decide⟩
theorem witness_MeasurementFrameFinishes :
    let s := reading 0x04 [0x59, 0x59, 1, 2, 3, 4, 5, 6] [7]
    s.phase = .tail ∧ (s.op = 0x00 ∨ s.op = 0x04) ∧ s.lexp = 9 ∧ s.rxlen = 8 ∧
      s.rxbuf.toList.take 8 = [0x59, 0x59, 1, 2, 3, 4, 5, 6] ∧ s.rxq = 7 :: [] := by decide
theorem witness_EchoFrameFinishes :
    let s := withEcho (reading 0x03 [0x5A, 0x06, 0x03, 0x04, 0x00] [0x67])
    s.phase = .tail ∧ s.op = 0x03 ∧ s.lexp = 6 ∧ s.rxlen = 5 ∧ s.rxbuf.toList.take 5 = [0x5A, 0x06, 0x03, 0x04, 0x00] ∧
      s.rxq = 0x67 :: [] := by decide
theorem witness_VersionFrameFinishes :
    let s := reading 0x01 [0x5A, 7, 1, 2, 3, 1] [0x68]
    s.phase = .tail ∧ s.op = 0x01 ∧ s.lexp = 7 ∧ s.rxlen = 6 ∧ s.rxbuf.toList.take 6 = [0x5A, 7, 1, 2, 3, 1] ∧
      s.rxq = 0x68 :: [] := by decide
theorem witness_StatusFrameFinishes_resetOk :
    let s := reading 0x02 [0x5A, 5, 2, 0x00] [0x60]
    s.phase = .tail ∧ s.op = 0x02 ∧ s.lexp = 5 ∧ s.rxlen = 4 ∧ s.rxbuf.toList.take 4 = [0x5A, 5, 2, 0x00] ∧
      s.rxq = 0x60 :: [] := by decide
theorem witness_StatusFrameFinishes_resetFail :
    let s := reading 0x02 [0x5A, 5, 2, 0x01] [0x61]
    s.phase = .tail ∧ s.op = 0x02 ∧ s.lexp = 5 ∧ s.rxlen = 4 ∧ s.rxbuf.toList.take 4 = [0x5A, 5, 2, 0x01] ∧
      s.rxq = 0x61 :: [] := by decide
theorem witness_StatusFrameFinishes_saveOk :
    let s := reading 0x11 [0x5A, 5, 2, 0x00] [0x70]
    s.phase = .tail ∧ s.op = 0x11 ∧ s.lexp = 5 ∧ s.rxlen = 4 ∧ s.rxbuf.toList.take 4 = [0x5A, 5, 2, 0x00] ∧
      s.rxq = 0x70 :: [] := by decide
theorem witness_StatusFrameFinishes_saveFail :
    let s := reading 0x11 [0x5A, 5, 2, 0x01] [0x71]
    s.phase = .tail ∧ s.op = 0x11 ∧ s.lexp = 5 ∧ s.rxlen = 4 ∧ s.rxbuf.toList.take 4 = [0x5A, 5, 2, 0x01] ∧
      s.rxq = 0x71 :: [] := by decide
theorem witness_StatusFrameFinishes_resetOther :
    let s := reading 0x02 [0x5A, 5, 2, 0x00] [0x61]
    s.phase = .tail ∧ s.op = 0x02 ∧ s.lexp = 5 ∧ s.rxlen = 4 ∧ s.rxbuf.toList.take 4 = [0x5A, 5, 2, 0x00] ∧
      s.rxq = 0x61 :: [] ∧
      ((0x00 : Byte), (0x61 : Byte)) ≠ (0x00, 0x60) ∧ ((0x00 : Byte), (0x61 : Byte)) ≠ (0x01, 0x61) := by decide
theorem witness_StatusFrameFinishes_saveOther :
    let s := reading 0x11 [0x5A, 5, 2, 0x00] [0x60]
    s.phase = .tail ∧ s.op = 0x11 ∧ s.lexp = 5 ∧ s.rxlen = 4 ∧ s.rxbuf.toList.take 4 = [0x5A, 5, 2, 0x00] ∧
      s.rxq = 0x60 :: [] ∧
      ((0x00 : Byte), (0x60 : Byte)) ≠ (0x00, 0x70) ∧ ((0x00 : Byte), (0x60 : Byte)) ≠ (0x01, 0x71) := by decide
/-- A sent frame: in another phase; in TAIL while its own echo is complete but for the last byte; with no byte left to put. -/
theorem witness_FrameNotAtHandLeavesTheState_sent : encode .cmdTrigger = .sent [0x5A, 0x04, 0x04, 0x62] ∧
    State.reset.phase ≠ .tx := by decide
theorem witness_FrameNotAtHandLeavesTheState_sent_echo :
    let s := withEcho (reading 0x03 [0x5A, 0x06, 0x03, 0x04, 0x00] [0x67])
    encode (.cmdFrameRate 0x04 0x00 0x67) = .sent [0x5A, 0x06, 0x03, 0x04, 0x00, 0x67] ∧ s.phase ≠ .tx := by decide
theorem witness_FrameNotAtHandLeavesTheState_sent_whole :
    let s := sending 0x01 [0x5A, 0x04, 0x01, 0x5F] 4
    encode .cmdVersion = .sent [0x5A, 0x04, 0x01, 0x5F] ∧ s.phase = .tx ∧ ¬ s.txidx.toNat < 4 := by decide
/-- A received frame: in TX with its bytes in TXBUF; under an operation that does not read it; with another number of bytes
missing; with another last byte. -/
theorem witness_FrameNotAtHandLeavesTheState_received_tx :
    let s := sending 0x03 [0x5A, 0x06, 0x03, 0x04, 0x00, 0x67] 0
    encode (.rspEcho 0x06 0x03 0x04 0x00 0x67) = .received 0x03 [0x5A, 0x06, 0x03, 0x04, 0x00, 0x67] ∧ s.phase ≠ .tail := by decide
theorem witness_FrameNotAtHandLeavesTheState_received_context :
    let s := reading 0x02 [0x5A, 5, 2, 0] [0x61]
    encode (.rspStatusOther .saveSettings 5 2 0 0x61) = .received 0x11 [0x5A, 5, 2, 0, 0x61] ∧ s.phase = .tail ∧
      ¬ (s.op = 0x11 ∨ ((0x11 : Byte) = 0x00 ∧ s.op = 0x04)) := by decide
theorem witness_FrameNotAtHandLeavesTheState_received_length :
    let s := { reading 0x02 [0x5A, 4, 2, 0] [0x60] with lexp := 6 }
    encode (.rspStatusResetOk 4 2) = .received 0x02 [0x5A, 4, 2, 0, 0x60] ∧ s.phase = .tail ∧ s.op = 0x02 ∧
      s.rxlen.toNat + 1 ≠ s.lexp.toNat := by decide
theorem witness_FrameNotAtHandLeavesTheState_received_byte :
    let s := reading 0x02 [0x5A, 4, 2, 0] [0x61]
    encode (.rspStatusResetOk 4 2) = .received 0x02 [0x5A, 4, 2, 0, 0x60] ∧ s.phase = .tail ∧ s.op = 0x02 ∧
      s.rxlen.toNat + 1 = s.lexp.toNat ∧ s.rxq.head? ≠ some 0x60 := by decide
theorem witness_HardwareResetInAnyState :
    (told [.hwReset] (sending 0x02 [0x5A, 0x04, 0x02, 0x60] 2)).nextEvent =
      (.hwReset, sending 0x02 [0x5A, 0x04, 0x02, 0x60] 2) := rfl
theorem witness_StepKeepsTheInvariant_idle : State.reset.Inv ∧ ∃ t, step State.reset = .next t := ⟨by decide, _, rfl⟩
theorem witness_StepKeepsTheInvariant_tx :
    let s := sending 0x02 [0x5A, 0x04, 0x02, 0x60] 3
    s.Inv ∧ ∃ t, step s = .next t := ⟨by decide, _, rfl⟩
theorem witness_StepKeepsTheInvariant_search :
    let s := searching 0x00 30 [0x5A]
    s.Inv ∧ ∃ t, step s = .next t := ⟨by decide, _, rfl⟩
theorem witness_StepKeepsTheInvariant_tail :
    let s := reading 0x00 [0x59, 0x59, 0, 0, 0, 0, 0, 0] [0xB2]
    s.Inv ∧ ∃ t, step s = .next t := ⟨by decide, _, rfl⟩
theorem witness_InvariantStateAlwaysSteps : (searching 0x00 30 [0x5A]).Inv := by decide

/-- SYSTEM_RESET has ended with Success; a byte is pending. -/
def afterReset : State := { completed (reading 0x02 [0x5A, 4, 2, 0, 0x60] [1]) with csumOk := true }

theorem witness_StepKeepsTheOutcome_tail :
    let s := reading 0x00 [0x59, 0x59, 0, 0, 0, 0, 0, 0] [0xB2]
    s.Inv ∧ s.OutcomeInv ∧ ∃ t, step s = .next t := ⟨by decide, by decide, _, rfl⟩
theorem witness_StepKeepsTheOutcome_done :
    afterReset.done = true ∧ afterReset.Inv ∧ afterReset.OutcomeInv ∧ ∃ t, step afterReset = .next t :=
  ⟨rfl, by decide, by decide, _, rfl⟩
/-- A frame of 300 cm, strength 2000 and -1 degrees (M9, EX4) has been read. -/
def measured : State :=
  { completed (reading 0x00 [0x59, 0x59, 0x2C, 0x01, 0xD0, 0x07, 0xFF, 0x07, 0xBC] []) with
    dist := 300, strength := 2000, temp := 0xFFFF }

theorem witness_MeasurementIsOfOneFrame :
    measured.measurement = some { dist := 300, strength := 2000, temp := -1 } ∧ measured.Inv ∧ measured.MeasurementInv ∧
      ∃ t, step measured = .next t :=
  ⟨by decide, by decide, fun m h => by cases (show some _ = some m from h); decide, _, rfl⟩
theorem witness_HostDutyKeepsOverrunClear :
    let s := told [.issue 0x010000] State.reset
    s.HostDutyKept ∧ ((∃ w, s.nextEvent.1 = .issue w) → s.busy = false) ∧ ∃ t, step s = .next t := ⟨rfl, fun _ => rfl, _, rfl⟩
theorem witness_PhaseFollowsTheTransitionGraph :
    let s := told [.issue 0x010000] afterReset
    s.Inv ∧ ∃ t, step s = .next t := ⟨by decide, _, rfl⟩
theorem witness_StreamsMoveOneByteInOrder : ∃ t, step (sending 0x02 [0x5A, 0x04, 0x02, 0x60] 0) = .next t := ⟨_, rfl⟩
theorem witness_OverrunMarkIsSticky : ∃ t, step (told [.issue 0x010000] (searching 0x02 0 [])) = .next t := ⟨_, rfl⟩
theorem witness_DoneOnlyByCompletion_refused :
    let s := told [.issue 0x050000] State.reset
    s.done = false ∧ ∃ t, step s = .next t ∧ t.done = true := ⟨rfl, _, rfl, rfl⟩
theorem witness_DoneOnlyByCompletion_search :
    let s := searching 0x11 30 [0x59]
    s.done = false ∧ ∃ t, step s = .next t ∧ t.done = true := ⟨rfl, _, rfl, by decide⟩
theorem witness_DoneOnlyByCompletion_tail :
    let s := reading 0x02 [0x5A, 5, 2, 0] [0x61]
    s.done = false ∧ ∃ t, step s = .next t ∧ t.done = true := ⟨rfl, _, rfl, by decide⟩
theorem witness_CompletedOutcomeStands :
    let s := told [.deliver 1] afterReset
    s.Inv ∧ s.done = true ∧ (∀ w, s.nextEvent.1 ≠ .issue w) ∧ s.nextEvent.1 ≠ .hwReset ∧ ∃ t, step s = .next t :=
  ⟨by decide, rfl, nofun, nofun, _, rfl⟩
theorem witness_OutputRegistersHaveOneWriter :
    let s := reading 0x01 [0x5A, 7, 1, 2, 3, 1] [0x68]
    (∃ t, step s = .next t) ∧ s.nextEvent.1 ≠ .hwReset := ⟨⟨_, rfl⟩, nofun⟩
theorem witness_OperationWordIsSampledOnce :
    let s := told [.issue 0x010000] (searching 0x02 0 [])
    (∃ t, step s = .next t) ∧ s.nextEvent.1 ≠ .hwReset ∧ ((∃ w, s.nextEvent.1 = .issue w) → s.busy = true) :=
  ⟨⟨_, rfl⟩, nofun, fun _ => rfl⟩
theorem witness_StarvedOperationWaitsForever_search :
    let s := told [.issue 0x010000, .block] (searching 0x02 30 [])
    s.busy = true ∧ s.phase = .search ∧ s.rxq = [] ∧ ∀ e ∈ s.env, e = .block ∨ ∃ w, e = .issue w :=
  ⟨rfl, rfl, rfl, by simp [told]⟩
theorem witness_StarvedOperationWaitsForever_tail :
    let s := reading 0x02 [0x5A, 5, 2, 0] []
    s.busy = true ∧ s.phase = .tail ∧ s.rxq = [] ∧ ∀ e ∈ s.env, e = .block ∨ ∃ w, e = .issue w := ⟨rfl, rfl, rfl, nofun⟩
theorem witness_DeliveryTimeDoesNotMatter : (searching 0x02 30 [0x59]).blockMove ≠ .nothing := nofun
/-- After a completed operation, and after a reset. -/
theorem witness_NoStateCarriesOver :
    let s := told [.issue 0x030004, .block] afterReset
    let t := { told [.issue 0x030004, .block] State.reset with rxq := [1] }
    s.busy = false ∧ t.busy = false ∧ s.env = .issue 0x030004 :: [.block] ∧ t.env = s.env ∧ t.rxq = s.rxq ∧
      t.measStrict = s.measStrict ∧ t.freeCtr = s.freeCtr ∧ s.op ≠ t.op ∧
      (∃ s', Host.Core.run Sys2Proof.core 2 s = .next s') ∧ ∃ t', Host.Core.run Sys2Proof.core 2 t = .next t' :=
  ⟨rfl, rfl, rfl, rfl, rfl, rfl, rfl, by decide, ⟨_, rfl⟩, _, rfl⟩
/-- Success, the failed search, and the refused code. -/
theorem witness_OperationRefinesItsOutcome :
    let s := { told [.issue (opWord 0x02 0)] State.reset with rxq := [0x01, 0x5A, 5, 2, 0, 0x61, 9] }
    s.busy = false ∧ s.env = [.issue (opWord 0x02 0)] ∧ (operation 0x02 0 s.measStrict s.rxq).isSome = true :=
  ⟨rfl, rfl, by decide⟩
theorem witness_OperationRefinesItsOutcome_timeout :
    let s := { told [.issue (opWord 0x01 0)] State.reset with rxq := List.replicate 31 0x59 }
    s.busy = false ∧ s.env = [.issue (opWord 0x01 0)] ∧ (operation 0x01 0 s.measStrict s.rxq).isSome = true :=
  ⟨rfl, rfl, by decide⟩
theorem witness_OperationRefinesItsOutcome_refused :
    let s := told [.issue (opWord 0x05 0)] State.reset
    s.busy = false ∧ s.env = [.issue (opWord 0x05 0)] ∧ (operation 0x05 0 s.measStrict s.rxq).isSome = true :=
  ⟨rfl, rfl, by decide⟩
theorem witness_OperationWithoutItsBytesStaysBusy :
    let s := { told [.issue (opWord 0x02 0)] State.reset with rxq := [0x5A, 5, 2, 0] }
    s.busy = false ∧ s.env = [.issue (opWord 0x02 0)] ∧ operation 0x02 0 s.measStrict s.rxq = none :=
  ⟨rfl, rfl, by decide⟩
/-- The shortest frame after the most garbage, the longest after none, and the failure. -/
theorem witness_CommandReaderThroughGarbage :
    (∀ b ∈ List.replicate 30 (0x59 : Byte), b ≠ 0x5A) ∧ (List.replicate 30 (0x59 : Byte)).length ≤ 30 ∧
      ([0x5A] : List Byte).length = 2 - 1 ∧ (List.replicate 254 (0 : Byte)).length = 255 - 1 ∧
      (∀ b ∈ List.replicate 31 (0x59 : Byte), b ≠ 0x5A) ∧ (List.replicate 31 (0x59 : Byte)).length = 31 :=
  ⟨by decide, by decide, rfl, List.length_replicate, by decide, rfl⟩
/-- Garbage that ends in its 30th byte other than 0x59, and in its 31st; each has a single 0x59. -/
theorem witness_MeasurementReaderThroughGarbage :
    (0x59 :: List.replicate 30 (0x5A : Byte)).IsChain (fun a b => ¬ (a = 0x59 ∧ b = 0x59)) ∧
      (0x59 :: List.replicate 30 (0x5A : Byte)).getLast? ≠ some 0x59 ∧
      ((0x59 :: List.replicate 30 (0x5A : Byte)).filter (· != 0x59)).length ≤ 30 := by decide
theorem witness_MeasurementReaderThroughGarbage_fails :
    (0x59 :: List.replicate 31 (0x5A : Byte)).IsChain (fun a b => ¬ (a = 0x59 ∧ b = 0x59)) ∧
      (0x59 :: List.replicate 31 (0x5A : Byte)).getLast? ≠ some 0x59 ∧
      ((0x59 :: List.replicate 31 (0x5A : Byte)).filter (· != 0x59)).length = 31 := by decide
theorem witness_ReadersTakeBoundedBytes : ∃ L : Nat, 2 ≤ L := ⟨2, by decide⟩
theorem witness_EncoderBuildsTheFrame : (List.replicate 251 (0 : Byte)).length ≤ 251 ∧ 251 < (List.replicate 252 (0 : Byte)).length :=
  ⟨List.length_replicate.le, List.length_replicate.ge⟩
theorem witness_EncodedFramesVerify : encodeCommand 0x03 [0x04, 0x00] = .ok [0x5A, 0x06, 0x03, 0x04, 0x00, 0x67] := by decide
theorem witness_ResponseCheckCountsTheHeaderOnce : ([] : List Byte).length < 2 ∧ ([0x5A] : List Byte).length < 2 := by decide
/-- The first index after the header, and the last. -/
theorem witness_SingleByteChangeIsDetected :
    let F : List Byte := [0x5A, 0x05, 0x11, 0x00, 0x70]
    verifyRsp F = .ok true ∧ 1 < F.length ∧ F[1]? ≠ some 0x06 ∧ 4 < F.length ∧ F[4]? ≠ some 0x71 := by decide
theorem witness_MeasurementRoundTrip : (List.replicate 8 (0 : Byte)).length ≠ 9 ∧ (List.replicate 10 (0 : Byte)).length ≠ 9 ∧
    (List.replicate 9 (0 : Byte)).length = 9 := by decide
theorem witness_OnlyTheExactEchoSucceeds :
    ((cmdFrame 0x03 4).set 1 0x07).length = 6 ∧ (cmdFrame 0x03 4)[1]? ≠ some 0x07 ∧
      ((cmdFrame 0x03 4).set 5 0x68).length = 6 ∧ (cmdFrame 0x03 4)[5]? ≠ some 0x68 := by decide

theorem witness_CommandReaderThroughGarbage_starved : (List.replicate 30 (0x59 : Byte)).length ≤ 30 ∧
    ([] : List Byte).length < 2 - 1 ∧ (List.replicate 253 (0 : Byte)).length < 255 - 1 :=
  ⟨by decide, by decide, by rw [List.length_replicate]; decide⟩
theorem witness_CommandReaderDecidesTheOperation : ∀ op ∈ ([0x01, 0x11] : List Byte), op ∈ ([0x01, 0x02, 0x03, 0x11] : List Byte) := by
  decide

end Sys2Proof.Tests
end

/-! PROOFS of the command frame encoder (spec/40_command_encoder.md): the sum as a number, the frame byte by byte, and the
two cases of the encoder's domain. -/

namespace Sys2Proof.Machine

/-- The carries of `SUM8` are lost, and nothing else (R150). -/
theorem sum8_toNat (S : List Byte) : (sum8 S).toNat = (S.map BitVec.toNat).sum % 256 := by
  induction S with
  | nil => rfl
  | cons b S ih =>
    rw [sum8_cons, BitVec.toNat_add, ih, List.map_cons, List.sum_cons]
    exact Nat.add_mod_mod _ _ _

/-- The frame of R130, with its checksum byte last. -/
theorem commandFrame_eq (code : Byte) (payload : List Byte) :
    commandFrame code payload = 0x5A :: BitVec.ofNat 8 (payload.length + 4) :: code ::
      (payload ++ [sum8 (0x5A :: BitVec.ofNat 8 (payload.length + 4) :: code :: payload)]) := rfl

/-- The sum of what precedes the checksum, the length byte counted as the number `n + 4`. -/
theorem sum8_commandPrefix_toNat (code : Byte) (payload : List Byte) :
    (sum8 (0x5A :: BitVec.ofNat 8 (payload.length + 4) :: code :: payload)).toNat =
      (0x5A + (payload.length + 4) + code.toNat + (payload.map BitVec.toNat).sum) % 256 := by
  have header : (0x5A : Byte).toNat = 0x5A := rfl
  simp only [sum8_toNat, List.map_cons, List.sum_cons, BitVec.toNat_ofNat, header]
  omega

/-- Inside its domain the encoder answers the frame (R130). -/
theorem encodeCommand_of_le {payload : List Byte} (code : Byte) (h : payload.length ≤ 251) :
    encodeCommand code payload = .ok (commandFrame code payload) :=
  if_neg (Nat.not_lt.mpr h)

/-- Outside its domain the encoder refuses (R131). -/
theorem encodeCommand_of_gt {payload : List Byte} (code : Byte) (h : 251 < payload.length) :
    encodeCommand code payload = .error .malformedFrame :=
  if_pos h

/-- Settles O44: inside the domain the checksum byte is the sum of the bytes before it; outside it the encoder refuses. -/
theorem encoderBuildsTheFrame : Obligations.EncoderBuildsTheFrame := by
  intro code payload
  refine ⟨fun h => ⟨_, ?frame, sum8_commandPrefix_toNat code payload⟩, encodeCommand_of_gt code⟩
  case frame => rw [encodeCommand_of_le code h, commandFrame_eq]

end Sys2Proof.Machine

/-! PROOFS of the checksum validator (spec/41_checksum_validator.md): the order of the summed bytes, and the response check
as a comparison of numbers. -/

namespace Sys2Proof.Machine

/-- The sum does not depend on the order of the bytes (R151). -/
theorem sum8_perm {S T : List Byte} (h : S.Perm T) : sum8 S = sum8 T := by
  apply BitVec.eq_of_toNat_eq
  rw [sum8_toNat, sum8_toNat, (h.map BitVec.toNat).sum_eq]

/-- Settles O47: the sum as a number, the law for one more byte, and the independence of the order. -/
theorem checksumIsTheSumModulo256 : Obligations.ChecksumIsTheSumModulo256 := by
  refine ⟨sum8_toNat, ?append, fun _ _ => sum8_perm⟩
  case append =>
    intro S b
    rw [sum8_append, sum8_cons, sum8_nil, add_zero]

/-- The bytes between the first and the last, summed with the constant 0x5A, as a number (R152). -/
theorem sum8_hdrCmd_cons_toNat (M : List Byte) :
    (sum8 (Config.hdrCmd :: M)).toNat = (0x5A + (M.map BitVec.toNat).sum) % 256 := by
  rw [sum8_toNat, List.map_cons, List.sum_cons]
  rfl

/-- A frame needs a header and a checksum byte (R153). -/
theorem verifyRsp_of_length_lt_two : ∀ {F : List Byte}, F.length < 2 → verifyRsp F = .error .malformedFrame
  | [], _ => rfl
  | [_], _ => rfl
  | _ :: _ :: F, h => absurd h (Nat.not_lt.mpr (Nat.le_add_left 2 F.length))

/-- Settles O48: the verdict compares the last byte with the sum in which 0x5A stands for the first byte. -/
theorem responseCheckCountsTheHeaderOnce : Obligations.ResponseCheckCountsTheHeaderOnce := by
  refine ⟨?verdict, fun _ => verifyRsp_of_length_lt_two⟩
  case verdict =>
    intro f0 M c
    rw [verifyRsp_append, beq_eq_decide]
    simp only [← BitVec.toNat_inj, sum8_hdrCmd_cons_toNat]

end Sys2Proof.Machine

/-! PROOFS of the measurement parser (spec/42_measurement_parser.md): what it answers on nine bytes and on any other number
of bytes, and the range of the temperature. -/

namespace Sys2Proof.Machine

/-- Nine bytes decode, and the header and checksum bytes play no part in the answer (R165). -/
theorem mdec_nine_bytes (f0 f1 dL dH sL sH tL tH c : Byte) :
    mdec [f0, f1, dL, dH, sL, sH, tL, tH, c] =
      .ok { dist := le16 dL dH, strength := le16 sL sH, temp := temperature (le16 tL tH) } := rfl

/-- Outside its domain the parser refuses (R171). -/
theorem mdec_of_length_ne_nine {F : List Byte} (h : F.length ≠ 9) : mdec F = .error .malformedFrame := by
  unfold mdec
  split
  · exact absurd rfl h
  · rfl

/-- Inside its domain the parser answers some measurement, whose temperature comes from a raw value (R169, R171). -/
theorem mdec_of_length_eq_nine : ∀ {F : List Byte}, F.length = 9 →
    ∃ m raw, mdec F = .ok m ∧ m.temp = temperature raw
  | [_, _, _, _, _, _, tL, tH, _], _ => ⟨_, le16 tL tH, mdec_nine_bytes .., rfl⟩

/-- The range of the temperature over all raw values (R170). -/
theorem temperature_bounds (raw : Half) : -256 ≤ temperature raw ∧ temperature raw ≤ 7935 := by
  have hraw : raw.toNat < 65536 := raw.isLt
  rw [temperature_eq]
  omega

/-- Settles O50: the bytes of each field put together again give the field; only nine bytes decode, and then to a
temperature in the range of its formula, which 16 signed bits hold. -/
theorem measurementRoundTrip : Obligations.MeasurementRoundTrip := by
  refine ⟨?roundTrip, fun _ => mdec_of_length_ne_nine, ?range⟩
  case roundTrip =>
    intro d st t c
    rw [mdec_nine_bytes, le16_lo8_hi8, le16_lo8_hi8, le16_lo8_hi8, temperature_eq]
  case range =>
    intro F hF
    obtain ⟨m, raw, hm, htemp⟩ := mdec_of_length_eq_nine hF
    obtain ⟨hlow, hhigh⟩ := temperature_bounds raw
    rw [← htemp] at hlow hhigh
    have hregister : (tempRegister m.temp).toInt = m.temp := htemp ▸ tempRegister_toInt raw
    exact ⟨m, hm, hlow, hhigh, hregister⟩

end Sys2Proof.Machine

/-! PROOFS of the frame synchronizer (spec/43_frame_synchronizer.md): the step in phase SEARCH as the search step of the
pending byte, and the search step mode by mode. -/

namespace Sys2Proof.Machine

/-- Taking the first pending byte leaves the bytes behind it (R63). -/
theorem State.takeByte_of_cons {s : State} {b : Byte} {q : List Byte} (hq : s.rxq = b :: q) :
    s.takeByte = { s with rxq := q } := by
  rw [State.takeByte, hq, List.tail_cons]

/-- A label of the block is the block's own move, in the state without that label (R16). -/
theorem step_of_block {s s1 : State} (he : s.nextEvent = (.block, s1)) : step s = blockStep s1 := by
  rw [step, he]

/-- In phase SEARCH with a byte pending, the block's move is the search step on it (R191, R194). -/
theorem step_search {s s1 : State} {b : Byte} {q : List Byte} (he : s.nextEvent = (.block, s1))
    (hp : s1.phase = .search) (hq : s1.rxq = b :: q) : step s = .next (s1.searchStep b) :=
  (step_of_block he).trans (blockStep_search hp hq)

/-- Command mode has two cases: the header, and a byte to discard (R191). -/
theorem State.searchStep_cmd {s : State} (hm : s.mode = .cmd) (b : Byte) :
    s.searchStep b = if b = 0x5A then s.takeByte.headerCmd else s.takeByte.discard := by
  rw [State.searchStep, hm]
  rfl

/-- Measurement mode has three: the second header byte, a possible first one, and a byte to discard (R194). -/
theorem State.searchStep_meas {s : State} (hm : s.mode = .meas) (b : Byte) :
    s.searchStep b =
      if b = 0x59 then if s.prev59 then s.takeByte.headerMeas else { s.takeByte with prev59 := true }
      else State.discard { s.takeByte with prev59 := false } := by
  rw [State.searchStep, hm]
  rfl

/-- Inside the budget a discarded byte is counted (R190). -/
theorem State.discard_of_lt {s : State} (hc : s.cnt.toNat < 30) : s.discard = { s with cnt := s.cnt + 1 } :=
  if_neg (Nat.ne_of_lt hc)

/-- With the budget used up a discarded byte ends the search (R190, R198). -/
theorem State.discard_of_eq {s : State} (hc : s.cnt = 30) : s.discard = s.searchTimeout :=
  if_pos (congrArg BitVec.toNat hc)

/-- The 31st non-matching byte ends the operation with Timeout (R198, R272). -/
theorem State.discard_endsWithTimeout {s : State} (hc : s.cnt = 30) : EndsWithTimeout s (.next s.discard) := by
  obtain ⟨d, st, te, pa, mi, ma, fc, hend, hmeas, hver⟩ := s.searchTimeout_cases
  rw [State.discard_of_eq hc, hend]
  exact ⟨d, st, te, pa, mi, ma, fc, rfl, hmeas, hver⟩

/-- Settles O13: the two cases of the command-mode search step, the second one split at the budget. -/
theorem commandSearchStep : Obligations.CommandSearchStep := by
  intro s s1 b q he hp hm hq
  rw [step_search he hp hq, State.searchStep_cmd hm b, State.takeByte_of_cons hq]
  refine ⟨fun hb => ?header, fun hb hc => ?discarded, fun hb hc => ?timeout⟩
  case header => rw [if_pos hb]; rfl
  case discarded => rw [if_neg hb]; exact congrArg Host.Outcome.next (State.discard_of_lt hc)
  case timeout => rw [if_neg hb]; exact State.discard_endsWithTimeout hc

/-- Settles O14: the three cases of the measurement-mode search step, the last one split at the budget. -/
theorem measurementSearchStep : Obligations.MeasurementSearchStep := by
  intro s s1 b q he hp hm hq
  rw [step_search he hp hq, State.searchStep_meas hm b, State.takeByte_of_cons hq]
  refine ⟨fun hb hprev => ?header, fun hb hprev => ?first, fun hb hc => ?discarded, fun hb hc => ?timeout⟩
  case header => rw [if_pos hb, if_pos hprev]; rfl
  case first => rw [if_pos hb, hprev, if_neg Bool.false_ne_true]
  case discarded => rw [if_neg hb]; exact congrArg Host.Outcome.next (State.discard_of_lt hc)
  case timeout => rw [if_neg hb]; exact State.discard_endsWithTimeout hc

end Sys2Proof.Machine

/-! PROOFS of the operations (spec/44_operations.md): the ISSUE step in each of its cases, one TXSTEP of a sent frame, and
the RXSTEP of the last byte with the finishing step of the operation that reads the frame. -/

namespace Sys2Proof.Machine

/-! ## ISSUE (R221, R222, R229) -/

/-- A label of the host is the ISSUE step of its word, in the state without that label (R16). -/
theorem step_of_issue {s s1 : State} {w : OpWord} (he : s.nextEvent = (.issue w, s1)) :
    step s = .next (s1.issue (opOf w) (argOf w)) := by
  rw [step, he]
  exact runWord_eq w s1

/-- While busy the word is dropped and OVR set, whatever the code (R222). -/
theorem State.issue_of_busy {s : State} (hb : s.busy = true) (op : Byte) (arg : Half) :
    s.issue op arg = { s with ovr := true } := if_pos hb

theorem State.issue_of_not_busy {s : State} (hb : s.busy = false) (op : Byte) (arg : Half) :
    s.issue op arg = s.accept op arg := if_neg (Bool.eq_false_iff.mp hb)

/-- GET_MEASUREMENT has nothing to send and starts with the search (R221, R235). -/
theorem State.accept_getMeasurement (s : State) (arg : Half) : s.accept 0x00 arg = (s.latch 0x00 arg).start .search :=
  if_pos rfl

/-- Every other operation starts by sending its command frame (R221). -/
theorem State.accept_of_sends (s : State) {op : Byte} (arg : Half) (hl : legalOp op = true) (h0 : op ≠ 0x00) :
    s.accept op arg = (s.latch op arg).start .tx := (if_neg h0).trans (if_pos hl)

/-- A code outside the six completes at once (R229). -/
theorem State.accept_of_not_legal (s : State) {op : Byte} (arg : Half) (hl : legalOp op = false) :
    s.accept op arg = (s.latch op arg).complete .illegalOperation := by
  have h0 : op ≠ 0x00 := by
    rintro rfl
    exact absurd hl (by decide)
  exact (if_neg h0).trans (if_neg (Bool.eq_false_iff.mp hl))

theorem legalOp_eq_false_of_not_mem {op : Byte} (h : op ∉ ([0x00, 0x01, 0x02, 0x03, 0x04, 0x11] : List Byte)) :
    legalOp op = false := by
  rw [Bool.eq_false_iff, ne_eq, legalOp_iff]
  simpa using h

/-- The state in which an operation with the command frame `F` starts to send it. -/
theorem State.issue_of_sends {s : State} {op : Byte} {arg : Half} {F : List Byte} (hb : s.busy = false)
    (hl : legalOp op = true) (h0 : op ≠ 0x00) (hF : cmdFrame op arg = F) :
    s.issue op arg = { (s.latch op arg).start .tx with txbuf := loadTx F s.txbuf, txlen := BitVec.ofNat 3 F.length } := by
  subst hF
  exact (State.issue_of_not_busy hb op arg).trans (s.accept_of_sends arg hl h0)

/-- A frame of four bytes leaves the last two places of TXBUF as they are (R139). -/
theorem State.issue_of_sends_four {s : State} {op : Byte} {arg : Half} {f0 f1 f2 f3 : Byte} (hb : s.busy = false)
    (hl : legalOp op = true) (h0 : op ≠ 0x00) (hF : cmdFrame op arg = [f0, f1, f2, f3]) :
    s.issue op arg =
      { (s.latch op arg).start .tx with txbuf := #v[f0, f1, f2, f3, s.txbuf[4], s.txbuf[5]], txlen := 4 } := by
  rw [State.issue_of_sends hb hl h0 hF, loadTx_four]
  rfl

/-- Settles O9: the frame that each operation loads, and for a reserved code that it loads none. -/
theorem acceptedIssueStartsTheOperation : Obligations.AcceptedIssueStartsTheOperation := by
  constructor
  · intro s arg hb
    refine ⟨?getMeasurement, ?triggerMeasurement, ?getVersion, ?systemReset, ?setFrameRate, ?saveSettings⟩
    case getMeasurement =>
      have hissue := (State.issue_of_not_busy hb 0x00 arg).trans (s.accept_getMeasurement arg)
      have hload : loadTx (cmdFrame 0x00 arg) s.txbuf = s.txbuf := loadTx_nil s.txbuf
      rw [State.latch, hload] at hissue
      exact congrArg Host.Outcome.next hissue
    case setFrameRate =>
      have hF : cmdFrame 0x03 arg = [0x5A, 0x06, 0x03, lo8 arg, hi8 arg, 0x63 + lo8 arg + hi8 arg] :=
        cmdFrameRateFrame_eq arg
      have hissue := State.issue_of_sends hb rfl (by decide) hF
      rw [loadTx_six, lo8_eq_extract, hi8_eq_extract] at hissue
      exact congrArg Host.Outcome.next hissue
    case triggerMeasurement | getVersion | systemReset | saveSettings =>
      exact congrArg Host.Outcome.next (State.issue_of_sends_four hb rfl (by decide) rfl)
  · intro s s1 w he hb hw
    have hl : legalOp (opOf w) = false := legalOp_eq_false_of_not_mem hw
    rw [step_of_issue he, State.issue_of_not_busy hb, s1.accept_of_not_legal (argOf w) hl, State.latch,
      cmdFrame_of_not_legal (argOf w) hl, loadTx_nil, modeOf_of_not_legal hl, lexpOf_of_not_legal hl]
    rfl

/-- Settles O10: each operation word means its ISSUE step, and so does the step on any word. -/
theorem issueWhileBusyOnlyMarksOverrun : Obligations.IssueWhileBusyOnlyMarksOverrun := by
  refine ⟨fun s arg hb => ?words, fun s s1 w he hb => ?step⟩
  case words =>
    have marks (op : Byte) : (.next (s.issue op arg) : Host.Outcome State Fault Refusal) = .next { s with ovr := true } :=
      congrArg Host.Outcome.next (State.issue_of_busy hb op arg)
    exact ⟨marks 0x00, marks 0x01, marks 0x02, marks 0x03, marks 0x04, marks 0x11⟩
  case step => rw [step_of_issue he, State.issue_of_busy hb]

/-! ## TXSTEP (R223) -/

/-- Settles O11: each of the five means one TXSTEP of its bytes, enabled where they stand in TXBUF and one is left. -/
theorem sentFramePutsItsNextByte : Obligations.SentFramePutsItsNextByte := by
  intro i F s v hi hp hl hF hv
  have hexec : exec i s = sendFrame F s := by
    rcases hi with ⟨rfl, rfl⟩ | ⟨rfl, rfl⟩ | ⟨rfl, rfl⟩ | ⟨rfl, rfl⟩ | ⟨l, h, c, rfl, rfl⟩ <;> rfl
  exact hexec.trans (sendFrame_eq hp hl.symm hF hv)

/-! ## The last byte of a received frame (R196, R230) -/

/-- Where the bytes `G` are stored and the one missing byte `c` is pending, the meaning of the frame `G ++ [c]` is the
finishing step on the state in which `c` is taken, stored and compared with ACC. -/
theorem readFrame_lastByte {ops G q : List Byte} {finish : State → State} {s : State} {n : Nat} {c : Byte} (h9 : n < 9)
    (hp : s.phase = .tail) (ho : s.op ∈ ops) (hL : s.lexp.toNat = n + 1) (hn : s.rxlen.toNat = n)
    (hG : s.rxbuf.toList.take n = G) (hq : s.rxq = c :: q) :
    readFrame ops (G ++ [c]) finish s =
      .next (finish { s with rxq := q, rxbuf := s.rxbuf.set n c h9, rxlen := s.lexp, csumOk := s.acc == c }) := by
  have hat : s.frameAtHand = some (G ++ [c], c) := hG ▸ State.frameAtHand_eq hL hn hq
  rw [readFrame_eq hp ho hat, State.storeLast_eq h9 hn hq]

/-- A measurement's verdict counts only under MEAS_STRICT (R236). -/
theorem number_measurementResult (strict : Bool) (acc c : Byte) :
    (if strict && !(acc == c) then ResultCode.checksumMismatch else .success).number =
      if strict = true ∧ acc ≠ c then 2 else 0 := by
  cases strict <;> by_cases h : acc = c <;> simp [h, ResultCode.number]

/-- A wrong checksum is the result, whatever the content of the frame would give (R246, R249). -/
theorem number_verdictFirst (acc c : Byte) (code : ResultCode) :
    (if !(acc == c) then ResultCode.checksumMismatch else code).number = if acc ≠ c then 2 else code.number := by
  by_cases h : acc = c <;> simp [h, ResultCode.number]

/-- Settles O16: both operations that read the frame, with the finishing step of a measurement. -/
theorem measurementFrameFinishes : Obligations.MeasurementFrameFinishes := by
  intro s dL dH sL sH tL tH c q hp hop hL hn hG hq
  have ho : s.op ∈ [Config.codeGetMeasurement, Config.codeTrigger] := List.mem_pair.mpr hop
  have hlast := readFrame_lastByte (finish := State.finishMeasurement [0x59, 0x59, dL, dH, sL, sH, tL, tH, c])
    (by decide) hp ho (congrArg BitVec.toNat hL) (congrArg BitVec.toNat hn) hG hq
  refine hlast.trans (congrArg Host.Outcome.next ?_)
  rw [State.finishMeasurement_eq, temperature_eq, le16_toNat, hL, ← number_measurementResult]
  rfl

/-- Settles O18: the finishing step of GET_VERSION on the stored last byte. -/
theorem versionFrameFinishes : Obligations.VersionFrameFinishes := by
  intro s r k p m j c q hp hop hL hn hG hq
  have ho : s.op ∈ [Config.codeVersion] := List.mem_singleton.mpr hop
  have hlast := readFrame_lastByte (finish := State.finishVersion [0x5A, r, k, p, m, j, c])
    (by decide) hp ho (congrArg BitVec.toNat hL) (congrArg BitVec.toNat hn) hG hq
  refine hlast.trans (congrArg Host.Outcome.next ?_)
  have hresult : (if s.acc == c then ResultCode.success else .checksumMismatch).number = if s.acc ≠ c then 2 else 0 := by
    by_cases h : s.acc = c <;> simp [h, ResultCode.number]
  rw [State.finishVersion_eq, hL, ← hresult]
  rfl

/-! ## The status rows (R249) -/

/-- The result of a status pair under a right checksum (R249). -/
def statusPairResult (ctx : StatusOp) (st c : Byte) : ResultCode :=
  if (st, c) = okPair ctx then .success else if (st, c) = nakPair ctx then .deviceFailure else .unexpectedResponse

theorem statusPairResult_other {ctx : StatusOp} {st c : Byte} (hok : (st, c) ≠ okPair ctx) (hnak : (st, c) ≠ nakPair ctx) :
    statusPairResult ctx st c = .unexpectedResponse := (if_neg hok).trans (if_neg hnak)

/-- The RXSTEP of the last byte of a status response, in the context `ctx`. -/
theorem readFrame_status {ctx : StatusOp} {r k st c : Byte} {s : State} {q : List Byte} (hp : s.phase = .tail)
    (hop : s.op = statusCode ctx) (hL : s.lexp = 5) (hn : s.rxlen = 4) (hG : s.rxbuf.toList.take 4 = [0x5A, r, k, st])
    (hq : s.rxq = c :: q) :
    readFrame [statusCode ctx] [0x5A, r, k, st, c] (State.finishStatus ctx [0x5A, r, k, st, c]) s = .next { s with
      rxq := q, rxbuf := s.rxbuf.set 4 c, rxlen := 5, csumOk := s.acc == c
      result := if s.acc ≠ c then 2 else (statusPairResult ctx st c).number
      phase := .idle, busy := false, done := true } := by
  have hlast := readFrame_lastByte (finish := State.finishStatus ctx [0x5A, r, k, st, c])
    (by decide) hp (List.mem_singleton.mpr hop) (congrArg BitVec.toNat hL) (congrArg BitVec.toNat hn) hG hq
  refine hlast.trans (congrArg Host.Outcome.next ?_)
  rw [State.finishStatus_eq, hL, ← number_verdictFirst]
  rfl

/-- Settles O19: each of the five rows, in its context, is a status response whose pair gives the result of the row. -/
theorem statusFrameFinishes : Obligations.StatusFrameFinishes := by
  intro i code r k st c good s q hrow hp hop hL hn hG hq
  have hctx : ∃ ctx, code = statusCode ctx ∧ good = (statusPairResult ctx st c).number ∧
      exec i s = readFrame [statusCode ctx] [0x5A, r, k, st, c] (State.finishStatus ctx [0x5A, r, k, st, c]) s := by
    rcases hrow with ⟨rfl, rfl, rfl, rfl, rfl⟩ | ⟨rfl, rfl, rfl, rfl, rfl⟩ | ⟨rfl, rfl, rfl, rfl, rfl⟩ |
      ⟨rfl, rfl, rfl, rfl, rfl⟩ | ⟨rfl, rfl, hok, hnak, rfl⟩ | ⟨rfl, rfl, hok, hnak, rfl⟩
    · exact ⟨.systemReset, rfl, rfl, rfl⟩
    · exact ⟨.systemReset, rfl, rfl, rfl⟩
    · exact ⟨.saveSettings, rfl, rfl, rfl⟩
    · exact ⟨.saveSettings, rfl, rfl, rfl⟩
    · exact ⟨.systemReset, rfl, by rw [statusPairResult_other hok hnak]; rfl, rfl⟩
    · exact ⟨.saveSettings, rfl, by rw [statusPairResult_other hok hnak]; rfl, rfl⟩
  obtain ⟨ctx, hcode, hgood, hexec⟩ := hctx
  rw [hexec, hgood]
  exact readFrame_status hp (hop.trans hcode) hL hn hG hq

end Sys2Proof.Machine

/-! PROOFS of the encodings (spec/30_encoding.md): the decoder on an operation word by its two fields, and the two round
trips, one per direction. -/

namespace Sys2Proof.Machine

/-! ## Operation words (R90, R91, R113) -/

/-- The decoder on a word given by its fields: one row per legal code, and the refusal by name. -/
theorem decodeWord_opWord (op : Byte) (arg : Half) :
    decodeWord (opWord op arg) =
      if op = 0x00 then .ok (.getMeasurement arg) else if op = 0x01 then .ok (.getVersion arg)
      else if op = 0x02 then .ok (.systemReset arg) else if op = 0x03 then .ok (.setFrameRate arg)
      else if op = 0x04 then .ok (.triggerMeasurement arg) else if op = 0x11 then .ok (.saveSettings arg)
      else .error (.reservedOperation op) := by
  rw [decodeWord, opOf_opWord, argOf_opWord]
  rfl

/-- A word that the decoder accepts is the encoding of its instruction. -/
theorem encode_of_decodeWord {w : OpWord} {i : Instr} (h : decodeWord w = .ok i) : encode i = .word w := by
  rw [← opWord_opOf_argOf w] at h ⊢
  generalize opOf w = op at h ⊢
  generalize argOf w = arg at h ⊢
  rw [decodeWord_opWord] at h
  (repeat' split at h) <;> cases h <;> subst op <;> rfl

/-- A word is refused by name exactly when its code is none of the six. -/
theorem decodeWord_refuses_iff (op : Byte) (arg : Half) :
    decodeWord (opWord op arg) = .error (.reservedOperation op) ↔
      op ∉ ([0x00, 0x01, 0x02, 0x03, 0x04, 0x11] : List Byte) := by
  rw [decodeWord_opWord]
  (repeat' split) <;> simp_all

/-! ## Sent frames (R95, R96) -/

theorem encode_of_decodeSent {F : List Byte} {i : Instr} (h : decodeSent F = .ok i) : encode i = .sent F := by
  unfold decodeSent at h
  (repeat' split at h) <;> cases h <;> rename_i hF <;> cases hF <;> rfl

/-! ## Received frames (R97 to R101) -/

/-- A status pair that no other row of its context fixes is read as the fallback row (R105). -/
theorem decodeStatus_other {ctx : StatusOp} {r q s c : Byte} (hok : (s, c) ≠ okPair ctx) (hnak : (s, c) ≠ nakPair ctx) :
    decodeStatus ctx [0x5A, r, q, s, c] = .ok (.rspStatusOther ctx r q s c) := by
  have header : (0x5A : Byte) = Config.hdrCmd := rfl
  simp only [decodeStatus, if_pos header, if_neg hok, if_neg hnak]

theorem encode_of_decodeMeas {F : List Byte} {i : Instr} (h : decodeMeas F = .ok i) : encode i = .received 0x00 F := by
  unfold decodeMeas at h
  (repeat' split at h) <;> cases h
  next hF => obtain ⟨rfl, rfl⟩ := hF; rfl

theorem encode_of_decodeEcho {F : List Byte} {i : Instr} (h : decodeEcho F = .ok i) : encode i = .received 0x03 F := by
  unfold decodeEcho at h
  (repeat' split at h) <;> cases h
  next hF => subst hF; rfl

theorem encode_of_decodeVersion {F : List Byte} {i : Instr} (h : decodeVersion F = .ok i) :
    encode i = .received 0x01 F := by
  unfold decodeVersion at h
  (repeat' split at h) <;> cases h
  next hF => subst hF; rfl

theorem encode_of_decodeStatus {ctx : StatusOp} {F : List Byte} {i : Instr} (h : decodeStatus ctx F = .ok i) :
    encode i = .received (statusCode ctx) F := by
  unfold decodeStatus at h
  split at h
  next f0 r q s c =>
    split at h
    next hF =>
      subst hF
      split at h
      next hok => cases ctx <;> cases h <;> cases hok <;> rfl
      next =>
        split at h
        next hnak => cases ctx <;> cases h <;> cases hnak <;> rfl
        next => cases h; rfl
    next => cases h
  next => cases h

/-- The encoding of a received frame names the context in which it was read, but for a measurement frame, which is read in
two (log entry 17). -/
theorem encode_of_decodeReceived {op : Byte} {F : List Byte} {i : Instr} (h : decodeReceived op F = .ok i) :
    encode i = .received op F ∨ op = 0x04 ∧ encode i = .received 0x00 F := by
  unfold decodeReceived at h
  split at h
  next hop =>
    obtain rfl | rfl := hop
    · exact .inl (encode_of_decodeMeas h)
    · exact .inr ⟨rfl, encode_of_decodeMeas h⟩
  next =>
    refine .inl ?_
    (repeat' split at h)
    next hop => exact hop ▸ encode_of_decodeEcho h
    next hop => exact hop ▸ encode_of_decodeVersion h
    next hop => exact hop ▸ encode_of_decodeStatus (ctx := .systemReset) h
    next hop => exact hop ▸ encode_of_decodeStatus (ctx := .saveSettings) h
    next => cases h

/-! ## The obligations -/

/-- Settles O1: every row but the fallback of a status response fixes its frame; that one is read back because its pair is
fixed by no other row. -/
theorem decodeReadsBackEncode : Obligations.DecodeReadsBackEncode := by
  intro i hi
  cases i with
  | getMeasurement arg | getVersion arg | systemReset arg | setFrameRate arg | triggerMeasurement arg
  | saveSettings arg => exact decodeWord_opWord _ arg
  | rspStatusOther ctx r q s c =>
    obtain ⟨hok, hnak⟩ : (s, c) ≠ okPair ctx ∧ (s, c) ≠ nakPair ctx := by simpa [Instr.wellFormed] using hi
    cases ctx <;> exact decodeStatus_other hok hnak
  | _ => rfl

/-- Settles O2: the three places a fetch reads from, one lemma for each. -/
theorem encodeWritesBackDecode : Obligations.EncodeWritesBackDecode := by
  intro f i h
  cases f with
  | word w => exact .inl (encode_of_decodeWord h)
  | sent F => exact .inl (encode_of_decodeSent h)
  | received op F =>
    rcases encode_of_decodeReceived h with hsame | ⟨rfl, hmeas⟩
    · exact .inl hsame
    · exact .inr ⟨F, rfl, hmeas⟩

/-- Settles O3: each word is evaluated. -/
theorem specWordsDecode : Obligations.SpecWordsDecode := by
  unfold Obligations.SpecWordsDecode
  decide

/-- Settles O4: the decoder's refusal, for a word put together from its two fields. -/
theorem reservedCodesAreRefusedByName : Obligations.ReservedCodesAreRefusedByName := by
  intro w
  have h := decodeWord_refuses_iff (opOf w) (argOf w)
  rwa [opWord_opOf_argOf] at h

end Sys2Proof.Machine

/-! PROOFS of the invariant of the block (spec/10_state.md sections 2 to 5): it holds in every idle state whose registers are
in their ranges, an accepted ISSUE establishes it, and every move of the block keeps it. -/

namespace Sys2Proof.Machine

/-! ## The idle states that meet it -/

/-- In IDLE nothing is in progress: only the flags, RESULT, the ranges and PREV59 are left of the invariant. -/
theorem State.inv_of_idle {t : State} (hp : t.phase = .idle) (hb : t.busy = false) (hr : t.ResultInv) (hi : t.IndexInv)
    (h59 : t.prev59 = false) : t.Inv := by
  refine ⟨⟨?_, ?_⟩, hr, hi, ?_, ?_, ?_, ?_, ?_⟩ <;> simp [hp, hb, h59]

/-- No operation ends with MalformedFrame (R266), and then RESULT is in its range. -/
theorem ResultCode.number_resultInv {code : ResultCode} (h : code ≠ .malformedFrame) :
    code.number ≠ 4 ∧ code.number ≠ 7 := by
  cases code <;> simp_all [ResultCode.number]

theorem State.complete_inv {s : State} {code : ResultCode} (hc : code ≠ .malformedFrame) (hi : s.IndexInv)
    (h59 : s.prev59 = false) : (s.complete code).Inv :=
  State.inv_of_idle rfl rfl (ResultCode.number_resultInv hc) hi h59

theorem State.hwReset_inv (s : State) : s.hwReset.Inv :=
  State.inv_of_idle rfl rfl (by decide : State.reset.ResultInv) (by decide : State.reset.IndexInv) rfl

/-! ## ISSUE -/

/-- The lengths that an accepted ISSUE latches are in their ranges (R35, R41). -/
theorem State.latch_indexInv (s : State) (op : Byte) (arg : Half) : (s.latch op arg).IndexInv :=
  ⟨Nat.zero_le _, (s.latch_txlen_toNat op arg).trans_le (cmdFrame_length_le op arg), Nat.zero_le _, lexpOf_le op⟩

/-- The registers of a started operation are those that its ISSUE latched (R38, R41, R139). -/
theorem State.start_exchangeInv (s : State) {op : Byte} (arg : Half) (p : Phase) (hl : legalOp op = true) :
    ((s.latch op arg).start p).ExchangeInv :=
  fun _ => ⟨hl, rfl, rfl, s.latch_txlen_toNat op arg, s.latch_txFrame op arg, rfl⟩

/-- Every operation but GET_MEASUREMENT has a command to send (R139). -/
theorem cmdFrame_length_pos {op : Byte} (arg : Half) (hl : legalOp op = true) (h0 : op ≠ 0x00) :
    0 < (cmdFrame op arg).length := by
  rw [legalOp_iff] at hl
  rcases hl with rfl | rfl | rfl | rfl | rfl | rfl
  · exact absurd rfl h0
  all_goals exact Nat.succ_pos _

theorem State.issue_inv {s : State} (h : s.Inv) (op : Byte) (arg : Half) : (s.issue op arg).Inv := by
  obtain ⟨-, hr, -⟩ := id h
  have hi := s.latch_indexInv op arg
  rcases s.issue_cases op arg with ⟨-, he⟩ | ⟨-, rfl, he⟩ | ⟨-, hl, h0, he⟩ | ⟨-, -, he⟩ <;> rw [he]
  · exact h
  · exact ⟨⟨⟨nofun, fun _ => rfl⟩, fun _ => rfl⟩, hr, hi, nofun, s.start_exchangeInv arg .search rfl, nofun,
      fun _ => ⟨rfl, rfl, Nat.zero_le _⟩, nofun⟩
  · have hpos := (cmdFrame_length_pos arg hl h0).trans_eq (s.latch_txlen_toNat op arg).symm
    exact ⟨⟨⟨nofun, fun _ => rfl⟩, fun _ => rfl⟩, hr, hi, nofun, s.start_exchangeInv arg .tx hl,
      fun _ => ⟨hpos, rfl, rfl⟩, nofun, nofun⟩
  · exact State.complete_inv nofun hi rfl

/-! ## TXSTEP -/


theorem State.txStep_inv {s : State} (h : s.Inv) (hp : s.phase = .tx) (v : Byte) : (s.txStep v).Inv := by
  obtain ⟨⟨hbusy, hdone⟩, hr, ⟨-, htx6, hrx⟩, h59, hex, htx, -, -⟩ := h
  have hne : s.phase ≠ .idle := by simp [hp]
  have hb : s.busy = true := hbusy.mpr hne
  have hex := hex hne
  obtain ⟨hlt, hrx0, hcnt0⟩ := htx hp
  have hprev : s.prev59 = true → False := fun h => by simpa [hp] using (h59 h).1
  rcases s.txStep_cases v with ⟨-, he⟩ | ⟨hlast, he⟩ <;> rw [he]
  · exact ⟨⟨⟨nofun, fun _ => hb⟩, hdone⟩, hr, ⟨le_rfl, htx6, hrx⟩, fun h => (hprev h).elim, fun _ => hex, nofun,
      fun _ => ⟨rfl, hrx0, by simp [hcnt0]⟩, nofun⟩
  · have hlt' : (s.txidx + 1).toNat < s.txlen.toNat := by bv_omega
    exact ⟨⟨hbusy, hdone⟩, hr, ⟨hlt'.le, htx6, hrx⟩, h59, fun _ => hex, fun _ => ⟨hlt', hrx0, hcnt0⟩,
      fun h => by simp [hp] at h, fun h => by simp [hp] at h⟩

/-! ## RXSTEP in phase SEARCH -/

/-- The header is shorter than the frame (R41, R187). -/
theorem headerOf_length_lt {op : Byte} (hl : legalOp op = true) : (headerOf (modeOf op)).length < (lexpOf op).toNat := by
  rw [legalOp_iff] at hl
  rcases hl with rfl | rfl | rfl | rfl | rfl | rfl <;> decide

/-- The header found: the header is what has been stored, ACC is its sum, and bytes of the frame are missing. -/
theorem State.inv_of_header {s : State} (h : s.Inv) (hp : s.phase = .search) {rb : Vector Byte 9} {rl : BitVec 4}
    {ac : Byte} {p : Bool} (hF : rb.toList.take rl.toNat = headerOf s.mode)
    (hn : rl.toNat = (headerOf s.mode).length) (ha : ac = sum8 (headerOf s.mode)) (h59 : p = false) :
    State.Inv { s with rxbuf := rb, rxlen := rl, acc := ac, prev59 := p, phase := .tail } := by
  obtain ⟨⟨hbusy, hdone⟩, hr, ⟨htx, htx6, -, h9⟩, -, hex, -, hse, -⟩ := h
  have hne : s.phase ≠ .idle := by simp [hp]
  obtain ⟨hl, hm, hlexp, hframe⟩ := hex hne
  obtain ⟨hidx, -, hcnt⟩ := hse hp
  have hlt : rl.toNat < s.lexp.toNat := by rw [hn, hm, hlexp]; exact headerOf_length_lt hl
  have hhdr : (rb.toList.take rl.toNat).take (headerOf s.mode).length = headerOf s.mode := by rw [hF, List.take_length]
  subst h59
  exact ⟨⟨⟨nofun, fun _ => hbusy.mpr hne⟩, hdone⟩, hr, ⟨htx, htx6, hlt.le, h9⟩, nofun,
    fun _ => ⟨hl, hm, hlexp, hframe⟩, nofun, nofun, fun _ => ⟨hidx, hn.ge, hlt, hhdr, ha.trans (congrArg sum8 hF.symm), hcnt⟩⟩

/-- The search goes on: a 0x59 is remembered in measurement mode only, and the budget is not passed. -/
theorem State.inv_of_searching {s : State} (h : s.Inv) (hp : s.phase = .search) {p : Bool} {c : BitVec 5}
    (h59 : p = true → s.mode = .meas) (hc : c.toNat ≤ 30) : State.Inv { s with prev59 := p, cnt := c } := by
  obtain ⟨hflags, hr, hi, -, hex, -, hse, -⟩ := h
  obtain ⟨hidx, hrx0, -⟩ := hse hp
  exact ⟨hflags, hr, hi, fun h => ⟨hp, h59 h⟩, hex, fun h => by simp [hp] at h, fun _ => ⟨hidx, hrx0, hc⟩,
    fun h => by simp [hp] at h⟩

theorem State.searchTimeout_inv {s : State} (hi : s.IndexInv) (h59 : s.prev59 = false) : s.searchTimeout.Inv := by
  obtain ⟨d, st, te, pa, mi, ma, fc, he, -, -⟩ := s.searchTimeout_cases
  have hr : (1 : BitVec 3) ≠ 4 ∧ (1 : BitVec 3) ≠ 7 := by decide
  rw [he]
  exact State.inv_of_idle rfl rfl hr hi h59

theorem State.searchStep_inv {s : State} (h : s.Inv) (hp : s.phase = .search) (b : Byte) : (s.searchStep b).Inv := by
  have htake : s.takeByte.Inv := h
  obtain ⟨-, -, hi, h59, -, -, hse, -⟩ := id h
  obtain ⟨-, -, hcnt⟩ := hse hp
  have hprev : s.mode = .cmd → s.prev59 = false := fun hm => by
    by_contra hne
    simpa [hm] using (h59 (Bool.eq_true_of_not_eq_false hne)).2
  rcases s.searchStep_cases b with ⟨hm, -, he⟩ | ⟨hm, -, -, he⟩ | ⟨hm, -, -, he⟩ | ⟨hm, -, hc, he⟩ | ⟨hm, -, hc, he⟩ |
    ⟨hm, -, -, he⟩ | ⟨hm, -, -, he⟩ <;> rw [he]
  · refine State.inv_of_header htake hp ?_ ?_ ?_ (hprev hm) <;> rw [State.takeByte_mode, hm]
    · exact s.takeByte.headerCmd_rxFrame
    · rfl
    · rfl
  · refine State.inv_of_header htake hp ?_ ?_ ?_ rfl <;> rw [State.takeByte_mode, hm]
    · exact s.takeByte.headerMeas_rxFrame
    · rfl
    · rfl
  · exact State.inv_of_searching htake hp (fun _ => hm) hcnt
  · exact State.inv_of_searching htake hp (fun hprev59 => by simp [hprev hm] at hprev59) (by bv_omega)
  · exact State.inv_of_searching htake hp nofun (by bv_omega)
  · exact State.searchTimeout_inv hi (hprev hm)
  · exact State.searchTimeout_inv (s := { s.takeByte with prev59 := false }) hi rfl

/-! ## RXSTEP in phase TAIL -/

/-- In phase TAIL no 0x59 is remembered (R40). -/
theorem State.Inv.prev59_of_tail {s : State} (h : s.Inv) (hp : s.phase = .tail) : s.prev59 = false := by
  obtain ⟨-, -, -, h59, -⟩ := h
  by_contra hne
  simpa [hp] using (h59 (Bool.eq_true_of_not_eq_false hne)).1

theorem State.storeByte_inv {s : State} (h : s.Inv) (hp : s.phase = .tail) (hlast : s.rxlen.toNat + 1 < s.lexp.toNat)
    (b : Byte) : (s.storeByte b).Inv := by
  obtain ⟨hflags, hr, ⟨htx, htx6, -, h9⟩, h59, hex, -, -, hta⟩ := h
  obtain ⟨hidx, hhdr, -, hF, hacc, hcnt⟩ := hta hp
  have hsucc : (s.rxlen + 1).toNat = s.rxlen.toNat + 1 := by bv_omega
  have hlen : s.rxFrame.length = s.rxlen.toNat := s.rxFrame_length (by omega)
  have hF' : (s.storeByte b).rxFrame = s.rxFrame ++ [b] := s.storeByte_rxFrame b (by omega)
  have hhdr' : (s.storeByte b).rxFrame.take (headerOf s.mode).length = headerOf s.mode := by
    rw [hF', List.take_append_of_le_length (hhdr.trans_eq hlen.symm), hF]
  have hacc' : accAdd s.acc b = sum8 (s.storeByte b).rxFrame := by
    rw [hF', sum8_append, ← hacc, sum8_cons, sum8_nil, add_zero, accAdd]
  have hrx : (s.storeByte b).rxlen.toNat < s.lexp.toNat := hsucc.trans_lt hlast
  exact ⟨hflags, hr, ⟨htx, htx6, hrx.le, h9⟩, h59, hex, fun h => by simp [hp] at h, fun h => by simp [hp] at h,
    fun _ => ⟨hidx, (hhdr.trans (Nat.le_succ _)).trans_eq hsucc.symm, hrx, hhdr', hacc', hcnt⟩⟩

theorem State.finishBy_inv {s : State} (h : s.Inv) (hp : s.phase = .tail) {b : Byte}
    (hr : ReadForm s.op (s.rxFrame ++ [b])) : (finishBy s.op (s.rxFrame ++ [b]) (s.storeLast b)).Inv := by
  obtain ⟨-, -, ⟨htx, htx6, -, h9⟩, -⟩ := id h
  obtain ⟨code, d, st, te, pa, mi, ma, he, hcode, -, -⟩ := finishBy_cases hr (s.storeLast b)
  have hne : code ≠ .malformedFrame := by rintro rfl; simp at hcode
  rw [he]
  exact State.complete_inv hne ⟨htx, htx6, le_rfl, h9⟩ (h.prev59_of_tail hp)

/-! ## The step -/

theorem blockStep_inv {s t : State} (h : s.Inv) (hs : blockStep s = .next t) : t.Inv := by
  rcases blockStep_next hs with ⟨-, rfl⟩ | ⟨hp, -, -, v, -, rfl⟩ | ⟨hp, b, q, -, rfl⟩ | ⟨hp, b, q, -, hlast, -, rfl⟩ |
    ⟨hp, b, q, -, -, -, hr, rfl⟩
  · exact h
  · exact State.txStep_inv h hp v
  · exact State.searchStep_inv h hp b
  · exact State.storeByte_inv h hp hlast b
  · exact State.finishBy_inv h hp hr

/-- Settles O24: an ISSUE and a HWRESET establish the invariant or leave its registers, a DELIVER touches none of them, and
each move of the block keeps it. -/
theorem stepKeepsTheInvariant : Obligations.StepKeepsTheInvariant := by
  intro s t h hs
  have hdrop : s.dropEvent.Inv := h
  rcases step_next hs with ⟨w, -, rfl⟩ | ⟨b, -, rfl⟩ | ⟨-, rfl⟩ | ⟨-, hblock⟩
  · exact State.issue_inv hdrop _ _
  · exact hdrop
  · exact s.dropEvent.hwReset_inv
  · exact blockStep_inv hdrop hblock

end Sys2Proof.Machine

/-! PROOFS of what the registers say of a completed operation (spec/41_checksum_validator.md section 4,
spec/44_operations.md section 1): each of the three completions says it, and what does not complete an operation leaves it. -/

namespace Sys2Proof.Machine

/-! ## While an operation is in progress -/

theorem State.Inv.done_of_running {s : State} (h : s.Inv) (hp : s.phase ≠ .idle) : s.done = false := by
  obtain ⟨⟨hbusy, hdone⟩, -⟩ := h
  exact hdone (hbusy.mpr hp)

theorem State.Inv.exchange {s : State} (h : s.Inv) (hp : s.phase ≠ .idle) :
    legalOp s.op = true ∧ s.mode = modeOf s.op ∧ s.lexp = lexpOf s.op ∧
      s.txlen.toNat = (cmdFrame s.op s.arg).length ∧ s.txFrame = cmdFrame s.op s.arg ∧ s.csumOk = false := by
  obtain ⟨-, -, -, -, hex, -⟩ := h
  exact hex hp

/-- A state without a completed operation says nothing of one. -/
theorem State.outcomeInv_of_not_done {t : State} (hd : t.done = false) : t.OutcomeInv := by
  intro h
  rw [hd] at h
  cases h

/-! ## The three completions -/

theorem State.issue_outcomeInv {s : State} (h : s.OutcomeInv) (op : Byte) (arg : Half) : (s.issue op arg).OutcomeInv := by
  rcases s.issue_cases op arg with ⟨-, he⟩ | ⟨-, -, he⟩ | ⟨-, -, -, he⟩ | ⟨-, hl, he⟩ <;> rw [he]
  · exact h
  · exact State.outcomeInv_of_not_done rfl
  · exact State.outcomeInv_of_not_done rfl
  · exact fun _ => .inl ⟨rfl, hl, rfl, rfl⟩

theorem State.searchStep_outcomeInv {s : State} (h : s.Inv) (hp : s.phase = .search) (b : Byte) :
    (s.searchStep b).OutcomeInv := by
  have hne : s.phase ≠ .idle := by simp [hp]
  have hd : s.done = false := h.done_of_running hne
  obtain ⟨hl, -, -, -, -, hcs⟩ := h.exchange hne
  obtain ⟨-, -, -, -, -, -, hse, -⟩ := h
  obtain ⟨-, hrx0, -⟩ := hse hp
  rcases s.searchStep_coarse b with ⟨rb, rl, ac, p, he⟩ | ⟨p, c, he⟩ | ⟨-, p, d, st, te, pa, mi, ma, fc, he, -, -⟩ <;>
    rw [he]
  · exact State.outcomeInv_of_not_done hd
  · exact State.outcomeInv_of_not_done hd
  · exact fun _ => .inr (.inl ⟨rfl, hl, hrx0, hcs, rfl⟩)

/-- The command of SET_FRAME_RATE fills TXBUF (R34, R136). -/
theorem State.Inv.txbuf_of_frameRate {s : State} (h : s.Inv) (hp : s.phase ≠ .idle) (h3 : s.op = 0x03) :
    s.txbuf.toList = cmdFrame s.op s.arg := by
  obtain ⟨-, -, -, hlen, hF, -⟩ := h.exchange hp
  have h6 : s.txlen.toNat = 6 := by rw [hlen, h3]; rfl
  rw [State.txFrame, h6, List.take_of_length_le (by simp)] at hF
  exact hF

/-- What a finishing step leaves as the last byte left it. -/
theorem finishBy_frame {op : Byte} {F : List Byte} (h : ReadForm op F) (s : State) :
    (finishBy op F s).op = s.op ∧ (finishBy op F s).arg = s.arg ∧ (finishBy op F s).measStrict = s.measStrict ∧
      (finishBy op F s).rxlen = s.rxlen ∧ (finishBy op F s).rxFrame = s.rxFrame ∧
      (finishBy op F s).csumOk = s.csumOk ∧ (finishBy op F s).cnt = s.cnt := by
  obtain ⟨code, d, st, te, pa, mi, ma, he, -⟩ := finishBy_cases h s
  rw [he]
  exact ⟨rfl, rfl, rfl, rfl, rfl, rfl, rfl⟩

/-- The verdict that the accumulator gives on the last byte is that of the checksum function on the frame (R158). -/
theorem State.Inv.verdict_of_last {s : State} (h : s.Inv) (hp : s.phase = .tail) {b : Byte}
    (hr : ReadForm s.op (s.rxFrame ++ [b])) : (s.storeLast b).csumOk = frameVerdict s.op (s.rxFrame ++ [b]) := by
  obtain ⟨-, -, -, -, -, -, -, hta⟩ := h
  obtain ⟨-, -, -, -, hacc, -⟩ := hta hp
  rw [State.storeLast_csumOk, accVerdict, hacc]
  exact sum8_beq_last hr

theorem State.finishBy_outcomeInv {s : State} (h : s.Inv) (hp : s.phase = .tail) {b : Byte}
    (hlast : s.rxlen.toNat + 1 = s.lexp.toNat) (hr : ReadForm s.op (s.rxFrame ++ [b])) :
    (finishBy s.op (s.rxFrame ++ [b]) (s.storeLast b)).OutcomeInv := by
  have hne : s.phase ≠ .idle := by simp [hp]
  obtain ⟨hl, hm, hlexp, -⟩ := h.exchange hne
  have hv := h.verdict_of_last hp hr
  have hresult := finishBy_result hr s.arg (s.storeLast b) hv fun h3 => h.txbuf_of_frameRate hne h3
  obtain ⟨hop, harg, hstrict, hrx, hF, hcs, hcnt⟩ := finishBy_frame hr (s.storeLast b)
  obtain ⟨-, -, ⟨-, -, -, h9⟩, -, -, -, -, hta⟩ := h
  obtain ⟨-, hhdr, -, htake, -, hc30⟩ := hta hp
  have hlen : s.rxFrame.length = s.rxlen.toNat := s.rxFrame_length (by omega)
  rw [s.storeLast_rxFrame b (by omega) hlast] at hF
  refine fun _ => .inr (.inr ?_)
  rw [hop, harg, hstrict, hrx, hF, hcs, hcnt]
  refine ⟨hl, hlexp, hc30, ?_, hv, hresult⟩
  rw [State.storeLast_op, ← hm, List.take_append_of_le_length (hhdr.trans_eq hlen.symm), htake]

/-! ## The step -/

theorem blockStep_outcomeInv {s t : State} (h : s.Inv) (ho : s.OutcomeInv) (hs : blockStep s = .next t) :
    t.OutcomeInv := by
  rcases blockStep_next hs with ⟨-, rfl⟩ | ⟨hp, -, -, v, -, rfl⟩ | ⟨hp, b, q, -, rfl⟩ | ⟨hp, b, q, -, -, -, rfl⟩ |
    ⟨hp, b, q, -, hlast, -, hr, rfl⟩
  · exact ho
  · have hd : s.done = false := h.done_of_running (by simp [hp])
    rcases s.txStep_cases v with ⟨-, he⟩ | ⟨-, he⟩ <;> rw [he] <;> exact State.outcomeInv_of_not_done hd
  · exact State.searchStep_outcomeInv h hp b
  · have hd : s.done = false := h.done_of_running (by simp [hp])
    exact State.outcomeInv_of_not_done hd
  · exact State.finishBy_outcomeInv h hp hlast hr

/-- Settles O26: a refused code, a failed search and the last byte of a frame each say what they should; every other step
leaves what is said, or leaves no operation completed. -/
theorem stepKeepsTheOutcome : Obligations.StepKeepsTheOutcome := by
  intro s t h ho hs
  have hdrop : s.dropEvent.OutcomeInv := ho
  rcases step_next hs with ⟨w, -, rfl⟩ | ⟨b, -, rfl⟩ | ⟨-, rfl⟩ | ⟨-, hblock⟩
  · exact State.issue_outcomeInv hdrop _ _
  · exact hdrop
  · exact State.outcomeInv_of_not_done rfl
  · exact blockStep_outcomeInv (s := s.dropEvent) h hdrop hblock

end Sys2Proof.Machine

/-! PROOFS of one step, label by label (spec/00_scope.md section 5, spec/44_operations.md section 1): what each label makes
the machine run, which states the reset sources leave, and that no state of the invariant stops. -/

namespace Sys2Proof.Machine

/-! ## The labels (R16) -/

theorem State.nextEvent_of_nil {s : State} (h : s.env = []) : s.nextEvent = (.block, s) := by
  rw [State.nextEvent, State.dropEvent_of_nil h, h]
  rfl

theorem State.nextEvent_of_cons {s : State} {e : Event} {rest : List Event} (h : s.env = e :: rest) :
    s.nextEvent = (e, { s with env := rest }) := by
  rw [State.nextEvent, State.dropEvent_of_cons h, h]
  rfl

/-- A label of the device appends its byte (R65). -/
theorem step_of_deliver {s s1 : State} {b : Byte} (he : s.nextEvent = (.deliver b, s1)) :
    step s = .next (s1.deliver b) := by
  rw [step, he]

theorem step_of_hwReset {s s1 : State} (he : s.nextEvent = (.hwReset, s1)) : step s = .next s1.hwReset := by
  rw [step, he]

/-- Settles O6: the two forms of the list of events. -/
theorem stepFollowsTheEvents : Obligations.StepFollowsTheEvents :=
  ⟨fun _ => State.nextEvent_of_nil, fun _ _ _ => State.nextEvent_of_cons⟩

/-- Settles O7: the label of the device in any state. -/
theorem deliverAppendsOneByte : Obligations.DeliverAppendsOneByte := fun _ _ _ => step_of_deliver

/-- Settles O8: the two ways in which no step of the block is enabled. -/
theorem blockWaitsWithoutChange : Obligations.BlockWaitsWithoutChange := by
  rintro s s1 he (hidle | ⟨hp, hq⟩)
  · exact (step_of_block he).trans (blockStep_idle hidle)
  · exact (step_of_block he).trans (blockStep_wait hp hq)

/-! ## The instruction that a step runs -/

/-- The block's move in phase TX runs the frame in TXBUF (R223). -/
theorem blockStep_runs_sent {s : State} {i : Instr} (hp : s.phase = .tx) (hi : s.txidx.toNat < s.txlen.toNat)
    (h6 : s.txlen.toNat ≤ 6) (hd : decode (.sent s.txFrame) = .ok i) : blockStep s = exec i s := by
  simp only [blockStep, State.blockMove, hp, if_pos (And.intro hi h6), runFrame, hd]

/-- The block's move on the last byte of a frame runs the received frame (R230). -/
theorem blockStep_runs_received {s : State} {b : Byte} {q : List Byte} {i : Instr} (hp : s.phase = .tail)
    (hq : s.rxq = b :: q) (hlast : s.rxlen.toNat + 1 = s.lexp.toNat) (h9 : s.lexp.toNat ≤ 9)
    (hd : decode (.received s.op (s.rxFrame ++ [b])) = .ok i) : blockStep s = exec i s := by
  have hlt : s.rxlen.toNat < s.lexp.toNat ∧ s.lexp.toNat ≤ 9 := by omega
  simp only [blockStep, State.blockMove, hp, hq, if_pos hlt, if_pos hlast, runFrame, hd]

/-- Settles O5: a word at the head of the events, and the two frames that the block's own move runs. -/
theorem stepRunsTheDecodedInstruction : Obligations.StepRunsTheDecodedInstruction := by
  refine ⟨?word, ?sent, ?received⟩
  case word =>
    intro s w rest i henv hd
    rw [step, State.nextEvent_of_cons henv]
    simp only [runWord, hd]
  case sent =>
    intro s s1 i he hp hi h6 hd
    exact (step_of_block he).trans (blockStep_runs_sent hp hi h6 hd)
  case received =>
    intro s s1 b q i he hp hq hlast h9 hd
    exact (step_of_block he).trans (blockStep_runs_received hp hq hlast h9 hd)

/-! ## Bytes of a frame -/

/-- Settles O15: the move of the block on a byte that does not complete the frame. -/
theorem tailByteIsStoredAndSummed : Obligations.TailByteIsStoredAndSummed := by
  intro s s1 b q he hp hq hlt h9
  have hin : s1.rxlen.toNat < 9 := by omega
  refine ⟨hin, ?_⟩
  rw [step_of_block he, blockStep_store hp hq hlt h9, State.storeByte, State.takeByte_of_cons hq,
    setIfInBounds_eq_set _ _ _ hin]
  rfl

/-- Settles O17: the finishing step of SET_FRAME_RATE on the stored last byte. -/
theorem echoFrameFinishes : Obligations.EchoFrameFinishes := by
  intro s e1 e2 e3 e4 c q hp hop hL hn hG hq
  have ho : s.op ∈ [Config.codeFrameRate] := List.mem_singleton.mpr hop
  have hlast := readFrame_lastByte (finish := State.finishEcho [0x5A, e1, e2, e3, e4, c])
    (by decide) hp ho (congrArg BitVec.toNat hL) (congrArg BitVec.toNat hn) hG hq
  refine hlast.trans (congrArg Host.Outcome.next ?_)
  have hcode : (if s.txbuf.toList = [0x5A, e1, e2, e3, e4, c] then (0 : BitVec 3) else 3) =
      (if [0x5A, e1, e2, e3, e4, c] = s.txbuf.toList then ResultCode.success else .unexpectedResponse).number := by
    rw [apply_ite ResultCode.number]
    exact if_congr eq_comm rfl rfl
  rw [State.finishEcho_eq, hL, hcode, ← number_verdictFirst]
  rfl

/-! ## Frames not at hand (log entry 6) -/

/-- A frame that the block sends means one TXSTEP of its bytes. -/
theorem exec_of_encode_sent {i : Instr} {F : List Byte} (h : encode i = .sent F) (s : State) :
    exec i s = sendFrame F s := by
  cases i <;> cases h <;> rfl

/-- A frame that the block reads means the RXSTEP of its last byte, in the context of its encoding or, for a measurement,
also under 0x04 (log entry 17). -/
theorem exec_of_encode_received {i : Instr} {op : Byte} {F : List Byte} (h : encode i = .received op F) :
    ∃ ops finish, (∀ c ∈ ops, c = op ∨ op = 0x00 ∧ c = 0x04) ∧ ∀ s, exec i s = readFrame ops F finish s := by
  cases i <;> cases h <;> refine ⟨_, _, ?_, fun s => rfl⟩ <;> simp <;> decide

/-- Settles O20: the two kinds of frames, whose meanings leave the state where their step is not enabled. -/
theorem frameNotAtHandLeavesTheState : Obligations.FrameNotAtHandLeavesTheState := by
  constructor
  · intro i F s hi hnot
    rw [exec_of_encode_sent hi]
    exact sendFrame_stay hnot
  · intro i op F s hi hnot
    obtain ⟨ops, finish, hops, hexec⟩ := exec_of_encode_received hi
    rw [hexec]
    exact readFrame_stay fun ⟨hp, ho, hlast, hF⟩ => hnot ⟨hp, hops _ ho, hlast, hF⟩

/-! ## Reset (R50, R290) -/

/-- Settles O21: the fields of the reset state, read off. -/
theorem resetLeavesTheTableOfResetValues : Obligations.ResetLeavesTheTableOfResetValues := by
  unfold Obligations.ResetLeavesTheTableOfResetValues
  decide

/-- Settles O22: the free values are those that HWRESET draws. -/
theorem hardwareResetInAnyState : Obligations.HardwareResetInAnyState := by
  intro s s1 he
  exact ⟨_, _, _, _, _, _, _, _, _, step_of_hwReset he⟩

/-- Settles O23: nothing is in progress, nothing is done, and OVR is 0. -/
theorem resetMeetsTheInvariants : Obligations.ResetMeetsTheInvariants := by
  refine ⟨by decide, State.outcomeInv_of_not_done rfl, ?measurement, rfl⟩
  case measurement =>
    intro m hm
    obtain ⟨hdone, -⟩ := State.of_measurement hm
    exact absurd hdone (by decide)

/-! ## No state of the invariant stops (R274) -/

/-- In phase TX the frame in TXBUF is the command frame of the operation, and the decoder accepts it (R104). -/
theorem State.Inv.decodeSent_of_tx {s : State} (h : s.Inv) (hp : s.phase = .tx) :
    s.txFrame = cmdFrame s.op s.arg ∧ ∃ i, decodeSent s.txFrame = .ok i := by
  obtain ⟨hl, -, -, hlen, hF, -⟩ := h.exchange (by simp [hp])
  obtain ⟨-, -, -, -, -, htx, -⟩ := h
  obtain ⟨hlt, -⟩ := htx hp
  have h0 : s.op ≠ 0x00 := fun h0 => by
    rw [hlen, h0] at hlt
    exact Nat.not_lt_zero _ hlt
  exact ⟨hF, hF ▸ decodeSent_cmdFrame s.arg hl h0⟩

theorem State.Inv.blockStep_next_of_tx {s : State} (h : s.Inv) (hp : s.phase = .tx) : ∃ t, blockStep s = .next t := by
  obtain ⟨-, i, hd⟩ := h.decodeSent_of_tx hp
  obtain ⟨-, -, ⟨-, h6, -⟩, -, -, htx, -⟩ := h
  obtain ⟨hlt, -⟩ := htx hp
  exact ⟨_, blockStep_send hp h6 hd (List.getElem?_eq_getElem (hlt.trans_eq (s.txFrame_length h6).symm))⟩

/-- The stored bytes with the last one have the form that the operation reads, whatever that byte is. -/
theorem State.Inv.readForm_of_last {s : State} (h : s.Inv) (hp : s.phase = .tail)
    (hlast : s.rxlen.toNat + 1 = s.lexp.toNat) (b : Byte) : ReadForm s.op (s.rxFrame ++ [b]) := by
  obtain ⟨hl, hm, hlexp, -⟩ := h.exchange (by simp [hp])
  obtain ⟨-, -, ⟨-, -, -, h9⟩, -, -, -, -, hta⟩ := h
  obtain ⟨-, hhdr, -, htake, -⟩ := hta hp
  have hlen : s.rxFrame.length = s.rxlen.toNat := s.rxFrame_length (by omega)
  refine ReadForm.of_header hl ?_ ?_
  · rw [List.length_append, hlen, List.length_singleton, hlast, hlexp]
  · rw [← hm, List.take_append_of_le_length (hhdr.trans_eq hlen.symm), htake]

theorem State.Inv.blockStep_next_of_tail {s : State} (h : s.Inv) (hp : s.phase = .tail) :
    ∃ t, blockStep s = .next t := by
  cases hq : s.rxq with
  | nil => exact ⟨s, blockStep_wait (.inr hp) hq⟩
  | cons b q =>
    have hform := fun hlast => h.readForm_of_last hp hlast b
    obtain ⟨-, -, ⟨-, -, -, h9⟩, -, -, -, -, hta⟩ := h
    obtain ⟨-, -, hlt, -⟩ := hta hp
    rcases Nat.lt_or_eq_of_le hlt with hmore | hlast
    · exact ⟨_, blockStep_store hp hq hmore h9⟩
    · exact ⟨_, blockStep_finish hp hq hlast h9 (hform hlast)⟩

theorem State.Inv.blockStep_next {s : State} (h : s.Inv) : ∃ t, blockStep s = .next t := by
  cases hp : s.phase with
  | idle => exact ⟨s, blockStep_idle hp⟩
  | tx => exact h.blockStep_next_of_tx hp
  | search =>
    cases hq : s.rxq with
    | nil => exact ⟨s, blockStep_wait (.inl hp) hq⟩
    | cons b q => exact ⟨_, blockStep_search hp hq⟩
  | tail => exact h.blockStep_next_of_tail hp

/-- Settles O25: the labels from outside always go on, and in each phase the guards of the block's move are met. -/
theorem invariantStateAlwaysSteps : Obligations.InvariantStateAlwaysSteps := by
  intro s h
  have hdrop : s.dropEvent.Inv := h
  have hnext : s.nextEvent = (s.nextEvent.1, s.dropEvent) := rfl
  cases he : s.nextEvent.1 <;> rw [he] at hnext
  case issue => exact ⟨_, step_of_issue hnext⟩
  case deliver => exact ⟨_, step_of_deliver hnext⟩
  case hwReset => exact ⟨_, step_of_hwReset hnext⟩
  case block =>
    obtain ⟨t, ht⟩ := hdrop.blockStep_next
    exact ⟨t, (step_of_block hnext).trans ht⟩

end Sys2Proof.Machine

/-! PROOFS of what no step of the machine does, whatever the state (spec/10_state.md, spec/20_memory.md): which registers and
streams the block's own move can write, and from it who writes what. -/

namespace Sys2Proof.Machine

/-! ## What the block's own move leaves, and what it writes -/

/-- The block's move keeps the registers of the accepted word, OVR and the labels to come (R21, R76, R25). -/
theorem blockStep_keeps {s t : State} (hs : blockStep s = .next t) :
    t.op = s.op ∧ t.arg = s.arg ∧ t.mode = s.mode ∧ t.lexp = s.lexp ∧ t.txlen = s.txlen ∧ t.txbuf = s.txbuf ∧
      t.ovr = s.ovr ∧ t.env = s.env := by
  rcases blockStep_next hs with ⟨-, rfl⟩ | ⟨-, -, -, v, -, rfl⟩ | ⟨-, b, q, -, rfl⟩ | ⟨-, b, q, -, -, -, rfl⟩ |
    ⟨-, b, q, -, -, -, hr, rfl⟩
  · exact ⟨rfl, rfl, rfl, rfl, rfl, rfl, rfl, rfl⟩
  · rcases s.txStep_cases v with ⟨-, he⟩ | ⟨-, he⟩ <;> rw [he] <;> exact ⟨rfl, rfl, rfl, rfl, rfl, rfl, rfl, rfl⟩
  · rcases s.searchStep_coarse b with ⟨_, _, _, _, he⟩ | ⟨_, _, he⟩ | ⟨-, _, _, _, _, _, _, _, _, he, -⟩ <;> rw [he] <;>
      exact ⟨rfl, rfl, rfl, rfl, rfl, rfl, rfl, rfl⟩
  · exact ⟨rfl, rfl, rfl, rfl, rfl, rfl, rfl, rfl⟩
  · obtain ⟨code, d, st, te, pa, mi, ma, he, -⟩ := finishBy_cases hr (s.storeLast b)
    rw [he]
    exact ⟨rfl, rfl, rfl, rfl, rfl, rfl, rfl, rfl⟩

/-- The block's move follows the edges of the transition graph (R256). -/
theorem blockStep_phase {s t : State} (hs : blockStep s = .next t) :
    t.phase = s.phase ∨ (s.phase = .tx ∧ t.phase = .search) ∨ (s.phase = .search ∧ t.phase = .tail) ∨
      (s.phase = .search ∧ t.phase = .idle) ∨ (s.phase = .tail ∧ t.phase = .idle) := by
  rcases blockStep_next hs with ⟨-, rfl⟩ | ⟨hp, -, -, v, -, rfl⟩ | ⟨hp, b, q, -, rfl⟩ | ⟨hp, b, q, -, -, -, rfl⟩ |
    ⟨hp, b, q, -, -, -, hr, rfl⟩
  · exact .inl rfl
  · rcases s.txStep_cases v with ⟨-, he⟩ | ⟨-, he⟩ <;> rw [he]
    · exact .inr (.inl ⟨hp, rfl⟩)
    · exact .inl rfl
  · rcases s.searchStep_coarse b with ⟨_, _, _, _, he⟩ | ⟨_, _, he⟩ | ⟨-, _, _, _, _, _, _, _, _, he, -⟩ <;> rw [he]
    · exact .inr (.inr (.inl ⟨hp, rfl⟩))
    · exact .inl rfl
    · exact .inr (.inr (.inr (.inl ⟨hp, rfl⟩)))
  · exact .inl rfl
  · obtain ⟨code, d, st, te, pa, mi, ma, he, -⟩ := finishBy_cases hr (s.storeLast b)
    rw [he]
    exact .inr (.inr (.inr (.inr ⟨hp, rfl⟩)))

/-- The block's move takes one byte, or puts one, or neither (R71, R73). -/
theorem blockStep_streams {s t : State} (hs : blockStep s = .next t) :
    (t.rxq = s.rxq ∧ t.txlog = s.txlog) ∨
    ((s.phase = .search ∨ s.phase = .tail) ∧ (∃ b, s.rxq = b :: t.rxq) ∧ t.txlog = s.txlog) ∨
    (s.phase = .tx ∧ t.rxq = s.rxq ∧ ∃ v, s.txFrame[s.txidx.toNat]? = some v ∧ t.txlog = s.txlog ++ [v]) := by
  rcases blockStep_next hs with ⟨-, rfl⟩ | ⟨hp, -, -, v, hv, rfl⟩ | ⟨hp, b, q, hq, rfl⟩ | ⟨hp, b, q, hq, -, -, rfl⟩ |
    ⟨hp, b, q, hq, -, -, hr, rfl⟩
  · exact .inl ⟨rfl, rfl⟩
  · rcases s.txStep_cases v with ⟨-, he⟩ | ⟨-, he⟩ <;> rw [he] <;> exact .inr (.inr ⟨hp, rfl, v, hv, rfl⟩)
  · have htake : s.rxq = b :: s.takeByte.rxq := by rw [State.takeByte_rxq, hq]; rfl
    rcases s.searchStep_coarse b with ⟨_, _, _, _, he⟩ | ⟨_, _, he⟩ | ⟨-, _, _, _, _, _, _, _, _, he, -⟩ <;> rw [he] <;>
      exact .inr (.inl ⟨.inl hp, ⟨b, htake⟩, rfl⟩)
  · have htake : s.rxq = b :: s.rxq.tail := by rw [hq]; rfl
    exact .inr (.inl ⟨.inr hp, ⟨b, htake⟩, rfl⟩)
  · have htake : s.rxq = b :: s.rxq.tail := by rw [hq]; rfl
    obtain ⟨code, d, st, te, pa, mi, ma, he, -⟩ := finishBy_cases hr (s.storeLast b)
    rw [he]
    exact .inr (.inl ⟨.inr hp, ⟨b, htake⟩, rfl⟩)

/-- Where the block's move completes an operation (R198, R230). -/
theorem blockStep_done {s t : State} (hd : s.done = false) (hs : blockStep s = .next t) (ht : t.done = true) :
    t.phase = .idle ∧ t.busy = false ∧
      ((s.phase = .search ∧ s.cnt = 30 ∧ t.cnt = 31 ∧ t.result = 1) ∨
        (s.phase = .tail ∧ s.rxlen.toNat + 1 = s.lexp.toNat ∧ t.rxlen = s.lexp ∧
          t.csumOk = (s.acc == s.rxq.headD 0))) := by
  have stays {u : State} (hu : u.done = s.done) : ¬ u.done = true := by simp [hu, hd]
  rcases blockStep_next hs with ⟨-, rfl⟩ | ⟨hp, -, -, v, -, rfl⟩ | ⟨hp, b, q, -, rfl⟩ | ⟨hp, b, q, -, -, -, rfl⟩ |
    ⟨hp, b, q, hq, hlast, -, hr, rfl⟩
  · exact absurd ht (stays rfl)
  · rcases s.txStep_cases v with ⟨-, he⟩ | ⟨-, he⟩ <;> rw [he] at ht <;> exact absurd ht (stays rfl)
  · rcases s.searchStep_coarse b with ⟨_, _, _, _, he⟩ | ⟨_, _, he⟩ | ⟨hc, _, _, _, _, _, _, _, _, he, -⟩ <;>
      rw [he] at ht ⊢
    · exact absurd ht (stays rfl)
    · exact absurd ht (stays rfl)
    · exact ⟨rfl, rfl, .inl ⟨hp, hc, rfl, rfl⟩⟩
  · exact absurd ht (stays rfl)
  · obtain ⟨code, d, st, te, pa, mi, ma, he, -⟩ := finishBy_cases hr (s.storeLast b)
    rw [he, hq]
    exact ⟨rfl, rfl, .inr ⟨hp, hlast, rfl, rfl⟩⟩

/-- From `s` to `t` an output register is written only where the operation that it belongs to completes
(R27 to R29, R31). -/
def OutputsOfCompletion (s t : State) : Prop :=
  ((t.dist = s.dist ∧ t.strength = s.strength ∧ t.temp = s.temp) ∨
    ((s.op = 0x00 ∨ s.op = 0x04) ∧ (s.phase = .search ∨ s.phase = .tail) ∧ t.done = true)) ∧
  ((t.verPatch = s.verPatch ∧ t.verMinor = s.verMinor ∧ t.verMajor = s.verMajor) ∨
    (s.op = 0x01 ∧ (s.phase = .search ∨ s.phase = .tail) ∧ t.done = true))

theorem OutputsOfCompletion.of_same {s t : State} (hm : t.dist = s.dist ∧ t.strength = s.strength ∧ t.temp = s.temp)
    (hv : t.verPatch = s.verPatch ∧ t.verMinor = s.verMinor ∧ t.verMajor = s.verMajor) : OutputsOfCompletion s t :=
  ⟨.inl hm, .inl hv⟩

/-- A completion in SEARCH or TAIL that leaves the registers of the other operations. -/
theorem OutputsOfCompletion.of_done {s t : State} (hp : s.phase = .search ∨ s.phase = .tail) (hd : t.done = true)
    (hm : s.op ≠ 0x00 → s.op ≠ 0x04 → t.dist = s.dist ∧ t.strength = s.strength ∧ t.temp = s.temp)
    (hv : s.op ≠ 0x01 → t.verPatch = s.verPatch ∧ t.verMinor = s.verMinor ∧ t.verMajor = s.verMajor) :
    OutputsOfCompletion s t := by
  constructor
  · by_cases hop : s.op = 0x00 ∨ s.op = 0x04
    · exact .inr ⟨hop, hp, hd⟩
    · exact .inl (hm (fun h => hop (.inl h)) fun h => hop (.inr h))
  · by_cases hop : s.op = 0x01
    · exact .inr ⟨hop, hp, hd⟩
    · exact .inl (hv hop)

theorem blockStep_outputs {s t : State} (hs : blockStep s = .next t) : OutputsOfCompletion s t := by
  rcases blockStep_next hs with ⟨-, rfl⟩ | ⟨hp, -, -, v, -, rfl⟩ | ⟨hp, b, q, -, rfl⟩ | ⟨hp, b, q, -, -, -, rfl⟩ |
    ⟨hp, b, q, -, -, -, hr, rfl⟩
  · exact .of_same ⟨rfl, rfl, rfl⟩ ⟨rfl, rfl, rfl⟩
  · rcases s.txStep_cases v with ⟨-, he⟩ | ⟨-, he⟩ <;> rw [he] <;> exact .of_same ⟨rfl, rfl, rfl⟩ ⟨rfl, rfl, rfl⟩
  · rcases s.searchStep_coarse b with ⟨_, _, _, _, he⟩ | ⟨_, _, he⟩ | ⟨-, _, _, _, _, _, _, _, _, he, hm, hv⟩ <;> rw [he]
    · exact .of_same ⟨rfl, rfl, rfl⟩ ⟨rfl, rfl, rfl⟩
    · exact .of_same ⟨rfl, rfl, rfl⟩ ⟨rfl, rfl, rfl⟩
    · exact .of_done (.inl hp) rfl hm hv
  · exact .of_same ⟨rfl, rfl, rfl⟩ ⟨rfl, rfl, rfl⟩
  · obtain ⟨code, d, st, te, pa, mi, ma, he, -, hm, hv⟩ := finishBy_cases hr (s.storeLast b)
    rw [he]
    exact .of_done (.inr hp) rfl hm hv

/-! ## The whole-machine rules -/

/-- Settles O29: an accepted ISSUE leaves IDLE, the block's move follows its edges, and the other labels keep PHASE or
reset it. -/
theorem phaseFollowsTheTransitionGraph : Obligations.PhaseFollowsTheTransitionGraph := by
  intro s t h hs
  obtain ⟨⟨hbusy, -⟩, -⟩ := h
  have hidle : s.busy = false → s.phase = .idle := fun hb => by
    by_contra hne
    simp [hbusy.mpr hne] at hb
  rcases step_next hs with ⟨w, hw, rfl⟩ | ⟨b, -, rfl⟩ | ⟨hreset, rfl⟩ | ⟨hblock, hmove⟩
  · rcases s.dropEvent.issue_cases (opOf w) (argOf w) with ⟨-, he⟩ | ⟨hb, -, he⟩ | ⟨hb, -, -, he⟩ | ⟨hb, -, he⟩ <;> rw [he]
    · exact .inl rfl
    · exact .inr (.inl ⟨⟨w, hw⟩, hidle hb, .inr rfl⟩)
    · exact .inr (.inl ⟨⟨w, hw⟩, hidle hb, .inl rfl⟩)
    · exact .inl (hidle hb).symm
  · exact .inl rfl
  · exact .inr (.inr (.inr ⟨hreset, rfl⟩))
  · rcases blockStep_phase hmove with hsame | hedge
    · exact .inl hsame
    · exact .inr (.inr (.inl ⟨hblock, hedge⟩))

/-- An ISSUE leaves both streams (R221, R222). -/
theorem State.issue_streams (s : State) (op : Byte) (arg : Half) :
    (s.issue op arg).rxq = s.rxq ∧ (s.issue op arg).txlog = s.txlog := by
  rcases s.issue_cases op arg with ⟨-, he⟩ | ⟨-, -, he⟩ | ⟨-, -, -, he⟩ | ⟨-, -, he⟩ <;> rw [he] <;> exact ⟨rfl, rfl⟩

/-- Settles O30: only a DELIVER and the block's move touch the streams. -/
theorem streamsMoveOneByteInOrder : Obligations.StreamsMoveOneByteInOrder := by
  intro s t hs
  rcases step_next hs with ⟨w, -, rfl⟩ | ⟨b, hb, rfl⟩ | ⟨-, rfl⟩ | ⟨hblock, hmove⟩
  · exact .inl (s.dropEvent.issue_streams _ _)
  · exact .inr (.inl ⟨b, hb, rfl, rfl⟩)
  · exact .inl ⟨rfl, rfl⟩
  · rcases blockStep_streams hmove with hsame | htake | hput
    · exact .inl hsame
    · exact .inr (.inr (.inl ⟨hblock, htake⟩))
    · exact .inr (.inr (.inr ⟨hblock, hput⟩))

/-- Settles O31: an ISSUE while busy is the one writer of OVR but HWRESET. -/
theorem overrunMarkIsSticky : Obligations.OverrunMarkIsSticky := by
  intro s t hs
  rcases step_next hs with ⟨w, hw, rfl⟩ | ⟨b, -, rfl⟩ | ⟨hreset, rfl⟩ | ⟨-, hmove⟩
  · rcases s.dropEvent.issue_cases (opOf w) (argOf w) with ⟨hb, he⟩ | ⟨-, -, he⟩ | ⟨-, -, -, he⟩ | ⟨-, -, he⟩ <;> rw [he]
    · exact .inr (.inl ⟨⟨w, hw⟩, hb, rfl⟩)
    · exact .inl rfl
    · exact .inl rfl
    · exact .inl rfl
  · exact .inl rfl
  · exact .inr (.inr ⟨hreset, rfl⟩)
  · obtain ⟨-, -, -, -, -, -, hovr, -⟩ := blockStep_keeps hmove
    exact .inl hovr

/-- Settles O28: OVR is written by an ISSUE while busy, which the duty shuts out, or cleared. -/
theorem hostDutyKeepsOverrunClear : Obligations.HostDutyKeepsOverrunClear := by
  intro s t h hduty hs
  rcases overrunMarkIsSticky s t hs with hsame | ⟨hissue, hb, -⟩ | ⟨-, hclear⟩
  · exact hsame.trans h
  · rw [hduty hissue] at hb
    cases hb
  · exact hclear

/-- Settles O32: a refused code completes in its ISSUE, every other operation by the block's move. -/
theorem doneOnlyByCompletion : Obligations.DoneOnlyByCompletion := by
  intro s t hd hs ht
  rcases step_next hs with ⟨w, hw, rfl⟩ | ⟨b, -, rfl⟩ | ⟨-, rfl⟩ | ⟨hblock, hmove⟩
  · rcases s.dropEvent.issue_cases (opOf w) (argOf w) with ⟨-, he⟩ | ⟨-, -, he⟩ | ⟨-, -, -, he⟩ | ⟨-, hl, he⟩ <;>
      rw [he] at ht ⊢
    · exact absurd (hd.symm.trans ht) Bool.false_ne_true
    · cases ht
    · cases ht
    · exact ⟨rfl, rfl, .inl ⟨⟨w, hw⟩, hl, rfl⟩⟩
  · exact absurd (hd.symm.trans ht) Bool.false_ne_true
  · cases ht
  · obtain ⟨hp, hb, hsearch | htail⟩ := blockStep_done (s := s.dropEvent) hd hmove ht
    · exact ⟨hp, hb, .inr (.inl ⟨hblock, hsearch⟩)⟩
    · exact ⟨hp, hb, .inr (.inr ⟨hblock, htail⟩)⟩

/-- Settles O33: with DONE 1 the block is in IDLE, where its move changes nothing, and a DELIVER changes no register. -/
theorem completedOutcomeStands : Obligations.CompletedOutcomeStands := by
  intro s t h hd hissue hreset hs
  have hidle : s.phase = .idle := by
    by_contra hne
    simp [h.done_of_running hne] at hd
  rcases step_next hs with ⟨w, hw, -⟩ | ⟨b, -, rfl⟩ | ⟨hr, -⟩ | ⟨-, hmove⟩
  · exact absurd hw (hissue w)
  · exact ⟨rfl, rfl⟩
  · exact absurd hr hreset
  · have hstay : t = s.dropEvent := by
      rw [blockStep_idle (s := s.dropEvent) hidle] at hmove
      cases hmove
      rfl
    rw [hstay]
    exact ⟨rfl, rfl⟩

/-- An ISSUE leaves the output registers (R221, R222). -/
theorem State.issue_outputs (s : State) (op : Byte) (arg : Half) :
    ((s.issue op arg).dist = s.dist ∧ (s.issue op arg).strength = s.strength ∧ (s.issue op arg).temp = s.temp) ∧
      (s.issue op arg).verPatch = s.verPatch ∧ (s.issue op arg).verMinor = s.verMinor ∧
      (s.issue op arg).verMajor = s.verMajor := by
  rcases s.issue_cases op arg with ⟨-, he⟩ | ⟨-, -, he⟩ | ⟨-, -, -, he⟩ | ⟨-, -, he⟩ <;> rw [he] <;>
    exact ⟨⟨rfl, rfl, rfl⟩, rfl, rfl, rfl⟩

/-- Settles O34: but for HWRESET only the block's move writes them. -/
theorem outputRegistersHaveOneWriter : Obligations.OutputRegistersHaveOneWriter := by
  intro s t hs hreset
  rcases step_next hs with ⟨w, -, rfl⟩ | ⟨b, -, rfl⟩ | ⟨hr, -⟩ | ⟨hblock, hmove⟩
  · obtain ⟨hmeas, hver⟩ := s.dropEvent.issue_outputs (opOf w) (argOf w)
    exact ⟨.inl hmeas, .inl hver⟩
  · exact ⟨.inl ⟨rfl, rfl, rfl⟩, .inl ⟨rfl, rfl, rfl⟩⟩
  · exact absurd hr hreset
  · obtain ⟨hmeas, hver⟩ := blockStep_outputs hmove
    exact ⟨hmeas.imp_right fun hw => ⟨hblock, hw⟩, hver.imp_right fun hw => ⟨hblock, hw⟩⟩

/-- Settles O35: an ISSUE while busy drops its word, and the block's move reads the registers only. -/
theorem operationWordIsSampledOnce : Obligations.OperationWordIsSampledOnce := by
  intro s t hs hreset hbusy
  rcases step_next hs with ⟨w, hw, rfl⟩ | ⟨b, -, rfl⟩ | ⟨hr, -⟩ | ⟨-, hmove⟩
  · rw [State.issue_of_busy (s := s.dropEvent) (hbusy ⟨w, hw⟩)]
    exact ⟨rfl, rfl, rfl, rfl, rfl, rfl⟩
  · exact ⟨rfl, rfl, rfl, rfl, rfl, rfl⟩
  · exact absurd hr hreset
  · obtain ⟨hop, harg, hmode, hlexp, htxlen, htxbuf, -⟩ := blockStep_keeps hmove
    exact ⟨hop, harg, hmode, hlexp, htxlen, htxbuf⟩

/-! ## The Measurement (R52) -/

/-- What is not the success of an operation is no Measurement. -/
theorem State.measurementInv_of_not_succeeded {t : State} (h : t.done = true → t.succeeded = false) :
    t.MeasurementInv := by
  intro m hm
  obtain ⟨hd, -, hsucc, -⟩ := State.of_measurement hm
  rw [h hd] at hsucc
  cases hsucc

theorem State.issue_measurementInv {s : State} (h : s.MeasurementInv) (op : Byte) (arg : Half) :
    (s.issue op arg).MeasurementInv := by
  rcases s.issue_cases op arg with ⟨-, he⟩ | ⟨-, -, he⟩ | ⟨-, -, -, he⟩ | ⟨-, -, he⟩ <;> rw [he]
  · exact h
  · exact State.measurementInv_of_not_succeeded nofun
  · exact State.measurementInv_of_not_succeeded nofun
  · exact State.measurementInv_of_not_succeeded fun _ => rfl

/-- The finishing step of a measurement operation writes the decode of the frame that stands in RXBUF (R236). -/
theorem finishBy_measurementInv {F : List Byte} {s : State} (hr : ReadForm s.op F) (hF : s.rxFrame = F) :
    (finishBy s.op F s).MeasurementInv := by
  intro m hm
  obtain ⟨hop, -, -, -, hframe, -⟩ := finishBy_frame hr s
  obtain ⟨-, hmode, -, rfl⟩ := State.of_measurement hm
  rw [hop] at hmode
  rw [hframe, hF]
  generalize hcode : s.op = op at hr hmode
  cases hr with
  | meas h dL dH sL sH tL tH c =>
    rw [finishBy_meas h, State.finishMeasurement_eq, mdec_nine_bytes]
    simp only [State.complete_dist, State.complete_strength, State.complete_temp, tempRegister_toInt]
  | echo => cases hmode
  | version => cases hmode
  | status ctx => cases ctx <;> cases hmode

theorem blockStep_measurementInv {s t : State} (h : s.Inv) (hm : s.MeasurementInv) (hs : blockStep s = .next t) :
    t.MeasurementInv := by
  have running (hp : s.phase ≠ .idle) {u : State} (hu : u.done = s.done) : u.MeasurementInv :=
    State.measurementInv_of_not_succeeded fun hd => by simp [hu, h.done_of_running hp] at hd
  rcases blockStep_next hs with ⟨-, rfl⟩ | ⟨hp, -, -, v, -, rfl⟩ | ⟨hp, b, q, -, rfl⟩ | ⟨hp, b, q, -, -, -, rfl⟩ |
    ⟨hp, b, q, -, hlast, h9, hr, rfl⟩
  · exact hm
  · rcases s.txStep_cases v with ⟨-, he⟩ | ⟨-, he⟩ <;> rw [he] <;> exact running (by simp [hp]) rfl
  · rcases s.searchStep_coarse b with ⟨_, _, _, _, he⟩ | ⟨_, _, he⟩ | ⟨-, _, _, _, _, _, _, _, _, he, -⟩ <;> rw [he]
    · exact running (by simp [hp]) rfl
    · exact running (by simp [hp]) rfl
    · exact State.measurementInv_of_not_succeeded fun _ => rfl
  · exact running (by simp [hp]) rfl
  · exact finishBy_measurementInv (s := s.storeLast b) hr (s.storeLast_rxFrame b (by omega) hlast)

/-- Settles O27: only the last byte of a frame brings a Measurement, and it is the decode of that frame. -/
theorem measurementIsOfOneFrame : Obligations.MeasurementIsOfOneFrame := by
  intro s t h hm hs
  have hdrop : s.dropEvent.MeasurementInv := hm
  rcases step_next hs with ⟨w, -, rfl⟩ | ⟨b, -, rfl⟩ | ⟨-, rfl⟩ | ⟨-, hmove⟩
  · exact State.issue_measurementInv hdrop _ _
  · exact hdrop
  · exact State.measurementInv_of_not_succeeded nofun
  · exact blockStep_measurementInv (s := s.dropEvent) h hdrop hmove

end Sys2Proof.Machine

/-! PROOFS of the codec and of the result of a frame (spec/40_command_encoder.md, spec/41_checksum_validator.md section 2,
spec/44_operations.md sections 3 and 5): the response check on encoded and on changed frames, and the order in which `judge`
looks at a command-mode response. -/

namespace Sys2Proof.Machine

/-! ## The response check (R133, R154) -/

/-- The frame of R130 carries the sum that the response check asks for. -/
theorem verifyRsp_commandFrame (code : Byte) (payload : List Byte) : verifyRsp (commandFrame code payload) = .ok true := by
  rw [commandFrame_eq]
  refine (verifyRsp_append _ (BitVec.ofNat 8 (payload.length + 4) :: code :: payload) _).trans ?_
  exact congrArg Except.ok (beq_self_eq_true _)

/-- Settles O45: the encoder answers a frame inside its domain only. -/
theorem encodedFramesVerify : Obligations.EncodedFramesVerify := by
  intro code payload F h
  by_cases hlen : payload.length ≤ 251
  · rw [encodeCommand_of_le code hlen] at h
    cases h
    exact verifyRsp_commandFrame code payload
  · rw [encodeCommand_of_gt code (Nat.lt_of_not_le hlen)] at h
    cases h

/-- A frame of two bytes or more, with its first and its last byte apart. -/
theorem exists_first_middle_last {F : List Byte} (h : 2 ≤ F.length) : ∃ f0 M c, F = f0 :: (M ++ [c]) := by
  match F, h with
  | f0 :: b :: rest, _ =>
    exact ⟨f0, (b :: rest).dropLast, (b :: rest).getLast (List.cons_ne_nil b rest), by rw [List.dropLast_append_getLast]⟩

/-- A change of one byte changes the sum (R154). -/
theorem sum8_set_ne {S : List Byte} {k : Nat} {b : Byte} (hk : k < S.length) (hb : S[k] ≠ b) : sum8 (S.set k b) ≠ sum8 S := by
  intro hsum
  have hset := sum8_set S k b hk
  rw [hsum] at hset
  exact hb (by bv_omega)

/-- Settles O49: a changed byte between the first and the last changes the sum, a changed last byte is compared with the same
sum. -/
theorem singleByteChangeIsDetected : Obligations.SingleByteChangeIsDetected := by
  intro F k b hF hk1 hk hb
  obtain ⟨f0, M, c, rfl⟩ := exists_first_middle_last (F := F) (by omega)
  obtain ⟨j, rfl⟩ : ∃ j, k = j + 1 := ⟨k - 1, by omega⟩
  have hsum : sum8 (Config.hdrCmd :: M) = c := by simpa [verifyRsp_append] using hF
  rw [List.getElem?_cons_succ] at hb
  rw [List.set_cons_succ]
  by_cases hj : j < M.length
  · have hne : M[j] ≠ b := by simpa [List.getElem?_append_left hj, List.getElem?_eq_getElem hj] using hb
    have hchanged : sum8 (Config.hdrCmd :: M.set j b) ≠ c := by
      rw [← hsum]
      exact sum8_set_ne (S := Config.hdrCmd :: M) (k := j + 1) (Nat.succ_lt_succ hj) hne
    rw [List.set_append_left _ _ hj, verifyRsp_append, beq_eq_false_iff_ne.mpr hchanged]
  · have hjM : j = M.length := by simp at hk; omega
    subst hjM
    have hne : sum8 (Config.hdrCmd :: M) ≠ b := by
      rw [hsum]
      simpa using hb
    rw [List.set_append_right _ _ le_rfl, Nat.sub_self, List.set_cons_zero, verifyRsp_append,
      beq_eq_false_iff_ne.mpr hne]

/-! ## The command frames (R139) -/

theorem hi8_eq_div (v : Half) : hi8 v = BitVec.ofNat 8 (v.toNat / 256) := by
  have hlt : v.toNat / 256 < 256 := Nat.div_lt_of_lt_mul v.isLt
  rw [hi8, Nat.mod_eq_of_lt hlt]

/-- Settles O46: the bytes of each frame, the two of the frame rate as numbers. -/
theorem commandFrameOfEachOperation : Obligations.CommandFrameOfEachOperation := by
  intro op arg
  have hchk : (0x63 : Byte) + lo8 arg + hi8 arg = BitVec.ofNat 8 (0x63 + arg.toNat % 256 + arg.toNat / 256) := by
    rw [BitVec.ofNat_add, BitVec.ofNat_add, hi8_eq_div, lo8]
    rfl
  rw [cmdFrame_eq, hchk, hi8_eq_div, lo8]

/-! ## The result of a command-mode response (R241, R246, R249) -/

/-- The verdict on a command-mode response is that of the response check. -/
theorem frameVerdict_cmd {op : Byte} (hm : modeOf op = .cmd) {F : List Byte} {ok : Bool} (h : verifyRsp F = .ok ok) :
    frameVerdict op F = ok := by
  rw [frameVerdict, hm]
  simp only [h]

theorem judge_cmd_of_bad {op : Byte} (hm : modeOf op = .cmd) {F : List Byte} (hv : frameVerdict op F = false) (arg : Half)
    (strict : Bool) : judge op arg strict F = .checksumMismatch := by
  simp only [judge, hm, hv, reduceCtorEq, if_false, Bool.not_false, if_true]

/-- Under a right checksum the echo is compared (R241). -/
theorem judge_frameRate {F : List Byte} (hv : frameVerdict 0x03 F = true) (hz : Half) (strict : Bool) :
    judge 0x03 hz strict F = if F = cmdFrame 0x03 hz then .success else .unexpectedResponse := by
  have hcmd : ¬ modeOf 0x03 = .meas := by decide
  simp only [judge, if_neg hcmd, hv]
  rfl

/-- Under a right checksum the status pair decides (R249). -/
theorem judge_status {ctx : StatusOp} {f0 r k st c : Byte} (hv : frameVerdict (statusCode ctx) [f0, r, k, st, c] = true)
    (arg : Half) (strict : Bool) :
    judge (statusCode ctx) arg strict [f0, r, k, st, c] = statusPairResult ctx st c := by
  have hcmd : ¬ modeOf (statusCode ctx) = .meas := by cases ctx <;> decide
  simp only [judge, if_neg hcmd, hv]
  cases ctx <;>
    simp [statusPairResult, statusCode, okPair, nakPair, Config.codeReset, Config.codeSave, Config.codeFrameRate,
      Config.codeVersion]

/-- Settles O51: the echo of the command verifies, and a frame with one changed byte does not. -/
theorem onlyTheExactEchoSucceeds : Obligations.OnlyTheExactEchoSucceeds := by
  intro hz strict F _
  have hcmd : modeOf 0x03 = .cmd := by decide
  have hgood : verifyRsp (cmdFrame 0x03 hz) = .ok true := verifyRsp_commandFrame Config.codeFrameRate [lo8 hz, hi8 hz]
  refine ⟨⟨fun h => ?exact, fun h => ?echo⟩, fun k b hk1 hk hb h => ?changed⟩
  case exact =>
    cases hv : frameVerdict 0x03 F with
    | false => cases (judge_cmd_of_bad hcmd hv hz strict).symm.trans h
    | true =>
      by_contra hne
      cases ((judge_frameRate hv hz strict).trans (if_neg hne)).symm.trans h
  case echo => rw [h, judge_frameRate (frameVerdict_cmd hcmd hgood), if_pos rfl]
  case changed =>
    have hlen : (cmdFrame 0x03 hz).length = 6 := rfl
    have hbad := singleByteChangeIsDetected (cmdFrame 0x03 hz) k b hgood hk1 (hk.trans_eq hlen.symm) hb
    rw [h, judge_cmd_of_bad hcmd (frameVerdict_cmd hcmd hbad)]

/-! ## The status literals (R250) -/

theorem frameVerdict_status (ctx : StatusOp) (r k st c : Byte) :
    frameVerdict (statusCode ctx) [0x5A, r, k, st, c] = (sum8 [0x5A, r, k, st] == c) := by
  cases ctx <;> rfl

/-- What a status response gives that is no bad checksum: the result of its pair, under a right checksum. -/
theorem judge_status_iff (ctx : StatusOp) (arg : Half) (strict : Bool) (r k st c : Byte) {code : ResultCode}
    (hcode : code ≠ .checksumMismatch) :
    judge (statusCode ctx) arg strict [0x5A, r, k, st, c] = code ↔
      statusPairResult ctx st c = code ∧ sum8 [0x5A, r, k, st] = c := by
  have hcmd : modeOf (statusCode ctx) = .cmd := by cases ctx <;> decide
  have hverdict := frameVerdict_status ctx r k st c
  by_cases hsum : sum8 [0x5A, r, k, st] = c
  · rw [beq_iff_eq.mpr hsum] at hverdict
    rw [judge_status hverdict, and_iff_left hsum]
  · rw [beq_eq_false_iff_ne.mpr hsum] at hverdict
    rw [judge_cmd_of_bad hcmd hverdict]
    exact iff_of_false hcode.symm fun h => hsum h.2

theorem statusPairResult_success_iff (ctx : StatusOp) (st c : Byte) :
    statusPairResult ctx st c = .success ↔ (st, c) = okPair ctx := by
  unfold statusPairResult
  (repeat' split) <;> simp_all

theorem statusPairResult_deviceFailure_iff (ctx : StatusOp) (st c : Byte) :
    statusPairResult ctx st c = .deviceFailure ↔ (st, c) = nakPair ctx := by
  cases ctx <;> unfold statusPairResult <;> (repeat' split) <;> simp_all [okPair, nakPair]

/-- The sum of a status response whose pair is fixed, as a condition on its two free bytes (R250). -/
theorem sum8_status_eq_iff {r k st c : Byte} {n : Nat} (hn : n < 256) (hc : c.toNat = (0x5A + st.toNat + n) % 256) :
    sum8 [0x5A, r, k, st] = c ↔ (r.toNat + k.toNat) % 256 = n := by
  rw [← BitVec.toNat_inj, sum8_toNat, hc]
  have header : (0x5A : Byte).toNat = 0x5A := rfl
  simp only [List.map_cons, List.map_nil, List.sum_cons, List.sum_nil, header]
  omega

/-- A pair of a status response as its two bytes, with the condition that the checksum puts on the rest. -/
theorem statusPair_sum_iff {r k st c a b : Byte} {n : Nat} (hn : n < 256) (hb : b.toNat = (0x5A + a.toNat + n) % 256) :
    ((st, c) = (a, b) ∧ sum8 [0x5A, r, k, st] = c) ↔ st = a ∧ c = b ∧ (r.toNat + k.toNat) % 256 = n := by
  rw [Prod.mk.injEq, and_assoc]
  refine and_congr_right fun hst => and_congr_right fun hc => ?_
  rw [hst, hc, sum8_status_eq_iff hn hb]

/-- Settles O52: each fixed pair together with the sum that its second byte stands for. -/
theorem statusLiteralsAgainstTheChecksum : Obligations.StatusLiteralsAgainstTheChecksum := by
  intro arg strict r k st c
  have success (ctx : StatusOp) (r k st c : Byte) :=
    (judge_status_iff ctx arg strict r k st c (code := .success) nofun).trans
      (and_congr_left' (statusPairResult_success_iff ctx st c))
  have failure (ctx : StatusOp) (r k st c : Byte) :=
    (judge_status_iff ctx arg strict r k st c (code := .deviceFailure) nofun).trans
      (and_congr_left' (statusPairResult_deviceFailure_iff ctx st c))
  have resetSuccess (r k st c : Byte) : judge 0x02 arg strict [0x5A, r, k, st, c] = .success ↔
      st = 0x00 ∧ c = 0x60 ∧ (r.toNat + k.toNat) % 256 = 0x06 :=
    (success .systemReset r k st c).trans (statusPair_sum_iff (by decide) rfl)
  refine ⟨resetSuccess r k st c, ?_, ?_, ?_, fun h => ?_, ?_⟩
  · exact (failure .systemReset r k st c).trans (statusPair_sum_iff (by decide) rfl)
  · exact (success .saveSettings r k st c).trans (statusPair_sum_iff (by decide) rfl)
  · exact (failure .saveSettings r k st c).trans (statusPair_sum_iff (by decide) rfl)
  · obtain ⟨-, -, hsum⟩ := (resetSuccess 0x05 0x02 st c).mp h
    exact absurd hsum (by decide)
  · exact (judge_status_iff .systemReset arg strict 0x05 0x02 0x00 0x61 (code := .unexpectedResponse) nofun).mpr
      ⟨by decide, by decide⟩

/-! ## `READ_CMD_FRAME` decides (R201, R270) -/

/-- A response under a right checksum gives Success, UnexpectedResponse or DeviceFailure, by its content. -/
theorem judge_cmd_of_good {op : Byte} (hm : modeOf op = .cmd) {F : List Byte} (hv : frameVerdict op F = true) (arg : Half)
    (strict : Bool) : judge op arg strict F ∈ [ResultCode.success, .unexpectedResponse, .deviceFailure] := by
  simp only [judge, hm, hv, reduceCtorEq, if_false, Bool.not_true, Bool.false_eq_true]
  (repeat' split) <;> simp

theorem frameVerdict_cmd_of_not {op : Byte} (hm : modeOf op = .cmd) {F : List Byte} (h : verifyRsp F ≠ .ok true) :
    frameVerdict op F = false := by
  cases hF : verifyRsp F with
  | ok v =>
    rw [frameVerdict_cmd hm hF]
    rw [hF] at h
    simpa using h
  | error e =>
    rw [frameVerdict, hm]
    simp only [hF]

theorem readerOf_cmd {op : Byte} (hm : modeOf op = .cmd) (q : List Byte) :
    readerOf op q = readCmd (lexpOf op).toNat 0 q := by
  simp only [readerOf, hm]

/-! An operation on a stream, by how its reader ends (R232). -/

theorem operation_of_starved {op : Byte} {q : List Byte} (hl : legalOp op = true) (h : readerOf op q = .starved)
    (arg : Half) (strict : Bool) : operation op arg strict q = none := by
  simp only [operation, if_pos hl, h]

theorem operation_of_notFound {op : Byte} {q rest : List Byte} (hl : legalOp op = true)
    (h : readerOf op q = .notFound rest) (arg : Half) (strict : Bool) :
    operation op arg strict q =
      some { result := .timeout, cnt := 31, frame := [], csumOk := false, rest := rest } := by
  simp only [operation, if_pos hl, h]

theorem operation_of_frame {op : Byte} {q F rest : List Byte} {cnt : Nat} (hl : legalOp op = true)
    (h : readerOf op q = .frame cnt F rest) (arg : Half) (strict : Bool) :
    operation op arg strict q =
      some { result := judge op arg strict F, cnt := cnt, frame := F, csumOk := frameVerdict op F, rest := rest } := by
  simp only [operation, if_pos hl, h]

/-- Settles O53: the operation follows its reader, and the verdict of the reader is the one that `judge` looks at first. -/
theorem commandReaderDecidesTheOperation : Obligations.CommandReaderDecidesTheOperation := by
  intro op arg strict q hop
  obtain ⟨hl, hm, hL⟩ : legalOp op = true ∧ modeOf op = .cmd ∧ ¬ ((lexpOf op).toNat < 2 ∨ (lexpOf op).toNat > 255) := by
    revert op
    decide
  refine ⟨_, if_neg hL, ?_⟩
  have hreader := readerOf_cmd hm q
  cases hq : readCmd (lexpOf op).toNat 0 q with
  | starved => exact operation_of_starved hl (hreader.trans hq) arg strict
  | notFound rest => exact ⟨rfl, operation_of_notFound hl (hreader.trans hq) arg strict⟩
  | frame cnt F rest =>
    have hop := operation_of_frame hl (hreader.trans hq) arg strict
    by_cases hF : verifyRsp F = .ok true
    · have hv := frameVerdict_cmd hm hF
      rw [hv] at hop
      rw [ReadOutcome.verdict, if_pos hF]
      exact ⟨rfl, _, judge_cmd_of_good hm hv arg strict, hop⟩
    · have hv := frameVerdict_cmd_of_not hm hF
      rw [hv, judge_cmd_of_bad hm hv] at hop
      rw [ReadOutcome.verdict, if_neg hF]
      exact ⟨rfl, hop⟩

end Sys2Proof.Machine

/-! PROOFS of the frame readers as functions of the stream (spec/43_frame_synchronizer.md sections 1 to 7): what they do with
garbage before a header, and how many bytes they take. -/

namespace Sys2Proof.Machine

/-! ## The tail read (R196, R197) -/

theorem readTail_append {F : List Byte} {n : Nat} (h : F.length = n) (hdr : List Byte) (cnt : Nat) (rest : List Byte) :
    readTail hdr n cnt (F ++ rest) = .frame cnt (hdr ++ F) rest := by
  subst h
  rw [readTail, if_pos (by simp), List.take_left, List.drop_left]

theorem readTail_of_short {q : List Byte} {n : Nat} (h : q.length < n) (hdr : List Byte) (cnt : Nat) :
    readTail hdr n cnt q = .starved := if_neg (Nat.not_le.mpr h)

/-! ## Command mode through garbage (R190, R191) -/

/-- Garbage inside the budget is counted and skipped. -/
theorem readCmd_garbage (L : Nat) (q : List Byte) : ∀ (g : List Byte) (cnt : Nat), (∀ b ∈ g, b ≠ 0x5A) →
    cnt + g.length ≤ 30 → readCmd L cnt (g ++ q) = readCmd L (cnt + g.length) q
  | [], _, _, _ => rfl
  | b :: g, cnt, hg, hc => by
    obtain ⟨hb, hg⟩ := List.forall_mem_cons.mp hg
    rw [List.length_cons] at hc ⊢
    rw [List.cons_append, readCmd_skip L hb (by omega), readCmd_garbage L q g (cnt + 1) hg (by omega), Nat.add_right_comm,
      Nat.add_assoc]

/-- The 31st byte of garbage ends the search (R198). -/
theorem readCmd_garbage_fails (L : Nat) {g : List Byte} (hg : ∀ b ∈ g, b ≠ 0x5A) (h31 : g.length = 31)
    (rest : List Byte) : readCmd L 0 (g ++ rest) = .notFound rest := by
  obtain ⟨g, b, rfl⟩ : ∃ g' b, g = g' ++ [b] := by
    have hne : g ≠ [] := by rintro rfl; cases h31
    exact ⟨g.dropLast, g.getLast hne, (List.dropLast_append_getLast hne).symm⟩
  obtain ⟨hg, hb⟩ := List.forall_mem_append.mp hg
  have h30 : g.length = 30 := by simpa using h31
  rw [List.append_assoc, readCmd_garbage L _ g 0 hg (by omega), h30]
  exact readCmd_full L (hb b (List.mem_singleton.mpr rfl)) rfl rest

/-- Settles O41: garbage, then the header with the tail read, or the byte that ends the search. -/
theorem commandReaderThroughGarbage : Obligations.CommandReaderThroughGarbage := by
  intro L g F rest hg
  have inside (h2 : 2 ≤ L) (h255 : L ≤ 255) (q : List Byte) : readCmdFrame L q = .ok (readCmd L 0 q).verdict :=
    if_neg (by omega)
  have found (h30 : g.length ≤ 30) (q : List Byte) :
      readCmd L 0 (g ++ 0x5A :: q) = readTail [0x5A] (L - 1) g.length q := by
    rw [readCmd_garbage L _ g 0 hg (by omega), Nat.zero_add, readCmd_header]
  refine ⟨fun h2 h255 h30 hF => ?frame, fun h2 h255 h30 hF => ?starved, fun h2 h255 h31 => ?failed, fun h2 => ?domain⟩
  case frame =>
    rw [inside h2 h255, List.append_assoc, List.cons_append, found h30, readTail_append hF]
    rfl
  case starved =>
    rw [inside h2 h255, found h30, readTail_of_short hF]
    rfl
  case failed =>
    rw [inside h2 h255, readCmd_garbage_fails L hg h31]
    rfl
  case domain => exact if_pos (.inl h2)

/-! ## Measurement mode through garbage (R189, R190, R194) -/

/-- The garbage read so far with the 0x59 before it, if there is one. -/
def withPrev (prev : Bool) (g : List Byte) : List Byte := if prev then 0x59 :: g else g

/-- Whether a stretch of garbage ends in a 0x59, which the search then remembers. -/
def endsIn59 (g : List Byte) : Bool := g.getLast? == some 0x59

/-- How many bytes of a stretch of garbage count against the budget (R190). -/
def counted (g : List Byte) : Nat := (g.filter (· != 0x59)).length

theorem counted_cons_of_ne {b : Byte} (hb : b ≠ 0x59) (g : List Byte) : counted (b :: g) = counted g + 1 := by
  rw [counted, List.filter_cons_of_pos (p := (· != 0x59)) (bne_iff_ne.mpr hb)]
  rfl

theorem counted_concat_of_ne {b : Byte} (hb : b ≠ 0x59) (g : List Byte) : counted (g ++ [b]) = counted g + 1 := by
  have hone : counted [b] = 1 := counted_cons_of_ne hb []
  rw [← hone, counted, List.filter_append, List.length_append]
  rfl

theorem endsIn59_cons_of_ne {b : Byte} (hb : b ≠ 0x59) : ∀ g : List Byte, endsIn59 (b :: g) = endsIn59 g
  | [] => beq_eq_false_iff_ne.mpr fun h => hb (Option.some.inj h)
  | a :: g => by rw [endsIn59, List.getLast?_cons_cons, endsIn59]

theorem endsIn59_withPrev_cons (p : Bool) (b : Byte) (g : List Byte) :
    endsIn59 (withPrev p (b :: g)) = endsIn59 (b :: g) := by
  cases p with
  | false => rfl
  | true => exact congrArg (· == some 0x59) List.getLast?_cons_cons

/-- Garbage without two adjacent bytes 0x59, inside the budget, is skipped: what counts is counted, and the last byte is
remembered. -/
theorem readMeas_garbage (q : List Byte) : ∀ (g : List Byte) (cnt : Nat) (p : Bool),
    (withPrev p g).IsChain (fun a b => ¬ (a = 0x59 ∧ b = 0x59)) → cnt + counted g ≤ 30 →
    readMeas cnt p (g ++ q) = readMeas (cnt + counted g) (endsIn59 (withPrev p g)) q
  | [], cnt, p, _, _ => by cases p <;> rfl
  | b :: g, cnt, p, hg, hc => by
    by_cases hb : b = 0x59
    · subst hb
      cases p with
      | true => exact absurd ⟨rfl, rfl⟩ (List.isChain_cons_cons.mp hg).1
      | false =>
        rw [List.cons_append, readMeas_first]
        exact readMeas_garbage q g cnt true hg hc
    · have hchain : (withPrev false g).IsChain (fun a b => ¬ (a = 0x59 ∧ b = 0x59)) := by
        cases p
        · exact hg.tail
        · exact hg.tail.tail
      rw [counted_cons_of_ne hb] at hc ⊢
      rw [List.cons_append, readMeas_skip p hb (by omega), readMeas_garbage q g (cnt + 1) false hchain (by omega),
        endsIn59_withPrev_cons, endsIn59_cons_of_ne hb, Nat.add_right_comm, Nat.add_assoc]
      rfl

/-- Settles O42: garbage, then the pair, or the byte that ends the search. -/
theorem measurementReaderThroughGarbage : Obligations.MeasurementReaderThroughGarbage := by
  intro g F rest hg hlast
  refine ⟨fun h30 hF => ?frame, fun h31 => ?failed⟩
  case frame =>
    have hend : endsIn59 (withPrev false g) = false := beq_eq_false_iff_ne.mpr hlast
    have h := readMeas_garbage (0x59 :: 0x59 :: F ++ rest) g 0 false hg ((Nat.zero_add _).trans_le h30)
    rw [List.append_assoc, readMeasFrame, h, hend, Nat.zero_add, List.cons_append, List.cons_append, readMeas_first,
      readMeas_header, readTail_append hF]
    rfl
  case failed =>
    obtain ⟨g, b, rfl⟩ : ∃ g' b, g = g' ++ [b] := by
      have hne : g ≠ [] := by rintro rfl; cases h31
      exact ⟨g.dropLast, g.getLast hne, (List.dropLast_append_getLast hne).symm⟩
    have hb : b ≠ 0x59 := by simpa using hlast
    have h30 : counted g = 30 := Nat.succ.inj ((counted_concat_of_ne hb g).symm.trans h31)
    have h := readMeas_garbage (b :: rest) g 0 false hg.left_of_append (by omega)
    rw [List.append_assoc, readMeasFrame]
    refine h.trans ?_
    rw [h30]
    exact readMeas_full _ hb rfl rest

/-! ## How many bytes a reader takes (R199, R205) -/

/-- What the command-mode reader takes of the stream `q`, `cnt` bytes discarded before. -/
def CmdTakes (L cnt : Nat) (q : List Byte) : ReadOutcome → Prop
  | .starved => cnt + q.length < 30 + L
  | .notFound rest => cnt + q.length = 31 + rest.length
  | .frame c F rest => c ≤ 30 ∧ F.length = L ∧ cnt + q.length = c + L + rest.length

/-- What the measurement-mode reader takes: each byte that counts may stand after a 0x59 that does not. -/
def MeasTakes (cnt : Nat) (p : Bool) (q : List Byte) : ReadOutcome → Prop
  | .starved => 2 * cnt + p.toNat + q.length < 69
  | .notFound rest => 31 + rest.length ≤ cnt + q.length ∧ 2 * cnt + p.toNat + q.length ≤ 62 + rest.length
  | .frame c F rest =>
    c ≤ 30 ∧ F.length = 9 ∧ c + 9 + rest.length ≤ cnt + p.toNat + q.length ∧
      2 * cnt + p.toNat + q.length ≤ 2 * c + 9 + rest.length

theorem readCmd_takes {L : Nat} (hL : 2 ≤ L) : ∀ (q : List Byte) (cnt : Nat), cnt ≤ 30 →
    CmdTakes L cnt q (readCmd L cnt q)
  | [], cnt, hc => by
    show cnt + 0 < 30 + L
    omega
  | b :: q, cnt, hc => by
    by_cases hb : b = 0x5A
    · subst hb
      rw [readCmd_header, readTail]
      split
      next hn =>
        simp only [CmdTakes, List.length_append, List.length_cons, List.length_nil, List.length_take, List.length_drop]
        omega
      next hn =>
        simp only [CmdTakes, List.length_cons]
        omega
    · by_cases h30 : cnt = 30
      · rw [readCmd_full L hb h30]
        simp only [CmdTakes, List.length_cons]
        omega
      · have ih := readCmd_takes hL q (cnt + 1) (by omega)
        rw [readCmd_skip L hb h30]
        revert ih
        cases readCmd L (cnt + 1) q <;> simp only [CmdTakes, List.length_cons] <;> omega

theorem readMeas_takes : ∀ (q : List Byte) (cnt : Nat) (p : Bool), cnt ≤ 30 → MeasTakes cnt p q (readMeas cnt p q)
  | [], cnt, p, hc => by
    show 2 * cnt + p.toNat + 0 < 69
    have := p.toNat_le
    omega
  | b :: q, cnt, p, hc => by
    have hp := p.toNat_le
    by_cases hb : b = 0x59
    · subst hb
      cases p with
      | true =>
        rw [readMeas_header, readTail]
        split
        next hn =>
          simp only [MeasTakes, List.length_append, List.length_cons, List.length_nil, List.length_take,
            List.length_drop, Bool.toNat_true]
          omega
        next hn =>
          simp only [MeasTakes, List.length_cons, Bool.toNat_true]
          omega
      | false =>
        have ih := readMeas_takes q cnt true hc
        rw [readMeas_first]
        revert ih
        cases readMeas cnt true q <;> simp only [MeasTakes, List.length_cons, Bool.toNat_true, Bool.toNat_false] <;> omega
    · by_cases h30 : cnt = 30
      · rw [readMeas_full p hb h30]
        simp only [MeasTakes, List.length_cons]
        omega
      · have ih := readMeas_takes q (cnt + 1) false (by omega)
        rw [readMeas_skip p hb h30]
        revert ih
        cases readMeas (cnt + 1) false q <;> simp only [MeasTakes, List.length_cons, Bool.toNat_false] <;> omega

/-- Settles O43: the bounds from the start of a search, where nothing has been discarded. -/
theorem readersTakeBoundedBytes : Obligations.ReadersTakeBoundedBytes := by
  refine ⟨fun L q hL => ?cmd, fun q => ?meas⟩
  case cmd =>
    have h := readCmd_takes hL q 0 (by omega)
    cases hq : readCmd L 0 q <;> rw [hq] at h <;> simpa [CmdTakes] using h
  case meas =>
    have h := readMeas_takes q 0 false (by omega)
    rw [readMeasFrame]
    cases hq : readMeas 0 false q <;> rw [hq] at h <;> simpa [MeasTakes] using h

end Sys2Proof.Machine

/-! PROOFS about several steps in a row (spec/20_memory.md sections 1 and 4, spec/60_exceptions.md section 4): runs put
together, the command frame sent whole, the wait without bytes, and the order of a delivery and a move of the block. -/

namespace Sys2Proof.Machine

/-! ## Runs -/

/-- In `n` steps the machine goes from `s` to `t`. -/
def RunsTo (n : Nat) (s t : State) : Prop := Host.Core.run Sys2Proof.core n s = .next t

theorem RunsTo.refl (s : State) : RunsTo 0 s s := rfl

theorem run_succ_of_step {n : Nat} {s t : State} (h : step s = .next t) :
    Host.Core.run Sys2Proof.core (n + 1) s = Host.Core.run Sys2Proof.core n t := by
  have hcore : Sys2Proof.core.step s = .next t := h
  simp only [Host.Core.run, hcore]

theorem run_succ_of_fault {n : Nat} {s : State} {r : Fault} (h : step s = .fault r) :
    Host.Core.run Sys2Proof.core (n + 1) s = .fault r := by
  have hcore : Sys2Proof.core.step s = .fault r := h
  simp only [Host.Core.run, hcore]

theorem run_succ_of_refused {n : Nat} {s : State} {r : Refusal} (h : step s = .refused r) :
    Host.Core.run Sys2Proof.core (n + 1) s = .refused r := by
  have hcore : Sys2Proof.core.step s = .refused r := h
  simp only [Host.Core.run, hcore]

/-- A run of one step is that step. -/
theorem run_one (s : State) : Host.Core.run Sys2Proof.core 1 s = step s := by
  cases h : step s with
  | next t => exact run_succ_of_step h
  | fault r => exact run_succ_of_fault h
  | refused r => exact run_succ_of_refused h

theorem RunsTo.head {n : Nat} {s t u : State} (h : step s = .next t) (ht : RunsTo n t u) : RunsTo (n + 1) s u :=
  (run_succ_of_step h).trans ht

/-- A run of `n + 1` steps begins with a step. -/
theorem RunsTo.exists_head {n : Nat} {s u : State} (h : RunsTo (n + 1) s u) : ∃ t, step s = .next t ∧ RunsTo n t u := by
  cases hs : step s with
  | next t => exact ⟨t, rfl, (run_succ_of_step hs).symm.trans h⟩
  | fault r => cases (run_succ_of_fault hs).symm.trans h
  | refused r => cases (run_succ_of_refused hs).symm.trans h

theorem RunsTo.trans {m n : Nat} {s t u : State} (h : RunsTo m s t) (ht : RunsTo n t u) : RunsTo (m + n) s u := by
  induction m generalizing s with
  | zero =>
    cases h
    rwa [Nat.zero_add]
  | succ m ih =>
    obtain ⟨r, hr, hrest⟩ := h.exists_head
    rw [Nat.add_right_comm]
    exact RunsTo.head hr (ih hrest)

/-! ## A whole command frame (R224) -/

/-- With no label to come and `k + 1` bytes of the command left, that many steps put them. -/
theorem runsTo_search_of_sending {i : Instr} : ∀ (k : Nat) (s : State), s.phase = .tx → s.env = [] →
    decodeSent s.txFrame = .ok i → s.txlen.toNat ≤ 6 → s.txidx.toNat + (k + 1) = s.txlen.toNat →
    RunsTo (k + 1) s
      { s with txlog := s.txlog ++ s.txFrame.drop s.txidx.toNat, txidx := s.txlen, phase := .search } := by
  intro k s hp henv hd h6 hk
  have hlen := s.txFrame_length h6
  have hi : s.txidx.toNat < s.txFrame.length := by omega
  have hstep : step s = .next (s.txStep s.txFrame[s.txidx.toNat]) :=
    (step_of_nil henv).trans (blockStep_send hp h6 hd (List.getElem?_eq_getElem hi))
  rw [List.drop_eq_getElem_cons hi]
  rcases s.txStep_cases s.txFrame[s.txidx.toNat] with ⟨hlast, he⟩ | ⟨hmore, he⟩ <;> rw [he] at hstep
  · obtain rfl : k = 0 := by omega
    rw [List.drop_of_length_le (by omega)]
    exact RunsTo.head hstep (RunsTo.refl _)
  · obtain ⟨k, rfl⟩ : ∃ k', k = k' + 1 := ⟨k - 1, by omega⟩
    have hsucc : (s.txidx + 1).toNat = s.txidx.toNat + 1 := by bv_omega
    have ih := runsTo_search_of_sending k
      { s with txlog := s.txlog ++ [s.txFrame[s.txidx.toNat]], txidx := s.txidx + 1 } hp henv hd h6
      (by show (s.txidx + 1).toNat + (k + 1) = s.txlen.toNat; omega)
    have hlog : s.txlog ++ s.txFrame[s.txidx.toNat] :: s.txFrame.drop (s.txidx.toNat + 1) =
        s.txlog ++ [s.txFrame[s.txidx.toNat]] ++ s.txFrame.drop (s.txidx + 1).toNat := by
      rw [hsucc]
      exact List.append_cons _ _ _
    rw [hlog]
    exact RunsTo.head hstep ih

/-- Settles O12: from the first byte on, all bytes of the frame in TXBUF are put. -/
theorem wholeCommandFrameIsSent : Obligations.WholeCommandFrameIsSent := by
  intro s h hp h0 henv
  obtain ⟨hF, i, hd⟩ := h.decodeSent_of_tx hp
  obtain ⟨-, -, ⟨-, h6, -⟩, -, -, htx, -⟩ := h
  obtain ⟨hlt, -⟩ := htx hp
  have hidx : s.txidx.toNat = 0 := by rw [h0]; rfl
  obtain ⟨k, hk⟩ : ∃ k, s.txlen.toNat = k + 1 := ⟨s.txlen.toNat - 1, by omega⟩
  have hrun := runsTo_search_of_sending k s hp henv hd h6 (by omega)
  rw [hidx, List.drop_zero, hF, ← hk] at hrun
  exact hrun

/-! ## Starvation (R66, R281) -/

/-- Settles O36: a move of the block changes nothing, and an ISSUE sets OVR. -/
theorem starvedOperationWaitsForever : Obligations.StarvedOperationWaitsForever := by
  intro n
  induction n with
  | zero => exact fun s _ _ _ _ => ⟨s.ovr, rfl⟩
  | succ n ih =>
    intro s hb hp hq henv
    cases hs : s.env with
    | nil =>
      have hstep : step s = .next s := (step_of_nil hs).trans (blockStep_wait hp hq)
      obtain ⟨ovr, hrun⟩ := ih s hb hp hq henv
      rw [hs, List.drop_nil] at hrun
      exact ⟨ovr, (run_succ_of_step hstep).trans hrun⟩
    | cons e rest =>
      obtain ⟨he, hrest⟩ := List.forall_mem_cons.mp (hs ▸ henv)
      have hnext := State.nextEvent_of_cons hs
      rcases he with rfl | ⟨w, rfl⟩
      · have hstep : step s = .next { s with env := rest } :=
          (step_of_block hnext).trans (blockStep_wait (s := { s with env := rest }) hp hq)
        obtain ⟨ovr, hrun⟩ := ih { s with env := rest } hb hp hq hrest
        exact ⟨ovr, (run_succ_of_step hstep).trans hrun⟩
      · have hstep : step s = .next { s with env := rest, ovr := true } :=
          (step_of_issue hnext).trans (congrArg _ (State.issue_of_busy (s := { s with env := rest }) hb _ _))
        obtain ⟨ovr, hrun⟩ := ih { s with env := rest, ovr := true } hb hp hq hrest
        exact ⟨ovr, (run_succ_of_step hstep).trans hrun⟩

/-! ## A delivery and a move of the block (R65, R74) -/

/-- The state with one more byte delivered, and `rest` to come. -/
def State.later (rest : List Event) (b : Byte) (s : State) : State := { s with env := rest, rxq := s.rxq ++ [b] }

/-- The same for what a step leads to. -/
def laterOutcome (rest : List Event) (b : Byte) : Host.Outcome State Fault Refusal → Host.Outcome State Fault Refusal
  | .next t => .next (t.later rest b)
  | .fault r => .fault r
  | .refused r => .refused r

section
variable (rest : List Event) (b : Byte)

theorem State.later_takeByte {s : State} (hq : s.rxq ≠ []) : (s.later rest b).takeByte = s.takeByte.later rest b := by
  simp only [State.later, State.takeByte, List.tail_append_of_ne_nil hq]

theorem State.later_txStep (s : State) (v : Byte) : (s.later rest b).txStep v = (s.txStep v).later rest b := by
  rw [State.txStep, State.txStep, apply_ite (State.later rest b)]
  rfl

theorem State.later_freeOutputs (s : State) : (s.later rest b).freeOutputs = s.freeOutputs.later rest b := by
  rw [State.freeOutputs, State.freeOutputs, apply_ite (State.later rest b), apply_ite (State.later rest b)]
  rfl

theorem State.later_searchTimeout (s : State) : (s.later rest b).searchTimeout = s.searchTimeout.later rest b :=
  congrArg (State.complete .timeout) (State.later_freeOutputs rest b { s with cnt := 31 })

theorem State.later_discard (s : State) : (s.later rest b).discard = s.discard.later rest b := by
  rw [State.discard, State.discard, apply_ite (State.later rest b), ← State.later_searchTimeout]
  rfl

theorem State.later_searchStep {s : State} (hq : s.rxq ≠ []) (c : Byte) :
    (s.later rest b).searchStep c = (s.searchStep c).later rest b := by
  cases hm : s.mode with
  | cmd =>
    rw [State.searchStep_cmd hm, State.searchStep_cmd (s := s.later rest b) hm, State.later_takeByte rest b hq,
      apply_ite (State.later rest b), State.later_discard]
    rfl
  | meas =>
    rw [State.searchStep_meas hm, State.searchStep_meas (s := s.later rest b) hm, State.later_takeByte rest b hq,
      apply_ite (State.later rest b), apply_ite (State.later rest b), ← State.later_discard]
    rfl

theorem State.later_storeByte {s : State} (hq : s.rxq ≠ []) (c : Byte) :
    (s.later rest b).storeByte c = (s.storeByte c).later rest b := by
  rw [State.storeByte, State.later_takeByte rest b hq]
  rfl

theorem State.later_storeLast {s : State} (hq : s.rxq ≠ []) (c : Byte) :
    (s.later rest b).storeLast c = (s.storeLast c).later rest b := by
  rw [State.storeLast, State.later_takeByte rest b hq]
  rfl

theorem finishBy_later {op : Byte} {F : List Byte} (h : ReadForm op F) (s : State) :
    finishBy op F (s.later rest b) = (finishBy op F s).later rest b := by
  cases h with
  | meas h dL dH sL sH tL tH c =>
    rw [finishBy_meas h, finishBy_meas h, State.finishMeasurement_eq, State.finishMeasurement_eq]
    rfl
  | echo e1 e2 e3 e4 c =>
    rw [finishBy_echo, finishBy_echo, State.finishEcho_eq, State.finishEcho_eq]
    rfl
  | version r q p m j c =>
    rw [finishBy_version, finishBy_version, State.finishVersion_eq, State.finishVersion_eq]
    rfl
  | status ctx r q p c =>
    rw [finishBy_status, finishBy_status, State.finishStatus_eq, State.finishStatus_eq]
    rfl

theorem runFrame_sent_later (F : List Byte) (s : State) :
    runFrame (.sent F) (s.later rest b) = laterOutcome rest b (runFrame (.sent F) s) := by
  simp only [runFrame, decode]
  split
  next i hd =>
    obtain ⟨-, hexec⟩ := decodeSent_ok hd
    rw [hexec, hexec, sendFrame, sendFrame, apply_ite (laterOutcome rest b)]
    refine if_congr Iff.rfl ?_ rfl
    have hidx : (s.later rest b).txidx = s.txidx := rfl
    rw [hidx]
    cases F[s.txidx.toNat]? with
    | none => rfl
    | some v => exact congrArg Host.Outcome.next (State.later_txStep rest b s v)
  next => rfl

theorem runFrame_received_later {s : State} (hq : s.rxq ≠ []) (F : List Byte) :
    runFrame (.received s.op F) (s.later rest b) = laterOutcome rest b (runFrame (.received s.op F) s) := by
  simp only [runFrame, decode]
  split
  next i hd =>
    obtain ⟨hr, ops, -, hexec⟩ := decodeReceived_ok hd
    have hhand : (s.later rest b).frameAtHand = s.frameAtHand := by
      obtain ⟨c, q, hcq⟩ := List.exists_cons_of_ne_nil hq
      simp only [State.frameAtHand, State.later, hcq, List.cons_append]
      rfl
    rw [hexec, hexec, readFrame, readFrame, hhand, apply_ite (laterOutcome rest b)]
    refine if_congr Iff.rfl ?_ rfl
    cases s.frameAtHand with
    | none => rfl
    | some Gc =>
      simp only [apply_ite (laterOutcome rest b)]
      refine if_congr Iff.rfl (congrArg Host.Outcome.next ?_) rfl
      rw [State.later_storeLast rest b hq, finishBy_later rest b hr]
  next => rfl

/-- The block's move in phase TX, faults included. -/
theorem blockStep_tx {s : State} (hp : s.phase = .tx) :
    blockStep s = if s.txidx.toNat < s.txlen.toNat ∧ s.txlen.toNat ≤ 6 then runFrame (.sent s.txFrame) s
      else .fault .txIndex := by
  simp only [blockStep, State.blockMove, hp]
  by_cases hi : s.txidx.toNat < s.txlen.toNat ∧ s.txlen.toNat ≤ 6
  · simp only [if_pos hi]
  · simp only [if_neg hi]

/-- The block's move in phase TAIL on a pending byte, faults included. -/
theorem blockStep_tail {s : State} {c : Byte} {q : List Byte} (hp : s.phase = .tail) (hq : s.rxq = c :: q) :
    blockStep s = if s.rxlen.toNat < s.lexp.toNat ∧ s.lexp.toNat ≤ 9 then
        if s.rxlen.toNat + 1 = s.lexp.toNat then runFrame (.received s.op (s.rxFrame ++ [c])) s
        else .next (s.storeByte c)
      else .fault .rxIndex := by
  simp only [blockStep, State.blockMove, hp, hq]
  by_cases hi : s.rxlen.toNat < s.lexp.toNat ∧ s.lexp.toNat ≤ 9
  · by_cases hlast : s.rxlen.toNat + 1 = s.lexp.toNat
    · simp only [if_pos hi, if_pos hlast]
    · simp only [if_pos hi, if_neg hlast]
  · simp only [if_neg hi]

/-- A byte delivered behind the pending ones changes nothing for the move of the block that is enabled. -/
theorem blockStep_later {s : State} (h : s.blockMove ≠ .nothing) :
    blockStep (s.later rest b) = laterOutcome rest b (blockStep s) := by
  have pending (hp : s.phase = .search ∨ s.phase = .tail) : s.rxq ≠ [] := by
    intro hq
    rcases hp with hp | hp <;> simp [State.blockMove, hp, hq] at h
  cases hp : s.phase with
  | idle => simp [State.blockMove, hp] at h
  | tx =>
    rw [blockStep_tx hp, blockStep_tx (s := s.later rest b) hp, apply_ite (laterOutcome rest b), ← runFrame_sent_later]
    rfl
  | search =>
    obtain ⟨c, q, hcq⟩ := List.exists_cons_of_ne_nil (pending (.inl hp))
    have hcq' : (s.later rest b).rxq = c :: (q ++ [b]) := by rw [State.later, hcq]; rfl
    rw [blockStep_search hp hcq, blockStep_search (s := s.later rest b) hp hcq',
      State.later_searchStep rest b (pending (.inl hp))]
    rfl
  | tail =>
    have hq := pending (.inr hp)
    obtain ⟨c, q, hcq⟩ := List.exists_cons_of_ne_nil hq
    have hcq' : (s.later rest b).rxq = c :: (q ++ [b]) := by rw [State.later, hcq]; rfl
    rw [blockStep_tail hp hcq, blockStep_tail (s := s.later rest b) hp hcq', apply_ite (laterOutcome rest b),
      apply_ite (laterOutcome rest b), ← runFrame_received_later rest b hq, State.later_storeByte rest b hq]
    rfl

end

/-- Settles O37: the move of the block, then the delivery; and the same move with that byte behind the pending ones. -/
theorem deliveryTimeDoesNotMatter : Obligations.DeliveryTimeDoesNotMatter := by
  intro s b rest h
  have hfirst : step { s with env := .block :: .deliver b :: rest } = blockStep { s with env := .deliver b :: rest } :=
    step_of_block (State.nextEvent_of_cons rfl)
  have hdelivered : step { s with env := .deliver b :: .block :: rest } =
      .next { s with env := .block :: rest, rxq := s.rxq ++ [b] } :=
    step_of_deliver (s1 := { s with env := .block :: rest }) rfl
  have hsecond : step { s with env := .block :: rest, rxq := s.rxq ++ [b] } =
      laterOutcome rest b (blockStep { s with env := .deliver b :: rest }) :=
    (step_of_block (State.nextEvent_of_cons rfl)).trans
      (blockStep_later rest b (s := { s with env := .deliver b :: rest }) h)
  have hlater : Host.Core.run Sys2Proof.core 2 { s with env := .deliver b :: .block :: rest } =
      laterOutcome rest b (blockStep { s with env := .deliver b :: rest }) :=
    (run_succ_of_step hdelivered).trans ((run_one _).trans hsecond)
  rw [hlater]
  cases hb : blockStep { s with env := .deliver b :: rest } with
  | fault r => exact run_succ_of_fault (hfirst.trans hb)
  | refused r => exact run_succ_of_refused (hfirst.trans hb)
  | next t =>
    obtain ⟨-, -, -, -, -, -, -, henv⟩ := blockStep_keeps hb
    have hdeliver : step t = .next (t.later rest b) :=
      step_of_deliver (s1 := { t with env := rest }) (State.nextEvent_of_cons henv)
    exact (run_succ_of_step (hfirst.trans hb)).trans ((run_one t).trans hdeliver)

end Sys2Proof.Machine

/-! PROOFS that no state carries over from one operation to the next (spec/10_state.md section 5): two states that no
operation can tell apart stay so under every shared operation, so under every step, so along every run. -/

namespace Sys2Proof.Machine

section
variable {s t : State}

theorem SameOperation.dropEvent (h : SameOperation s t) : SameOperation s.dropEvent t.dropEvent :=
  { h with env := congrArg List.tail h.env }

theorem SameOperation.deliver (h : SameOperation s t) (b : Byte) : SameOperation (s.deliver b) (t.deliver b) :=
  { h with rxq := congrArg (· ++ [b]) h.rxq }

theorem SameOperation.takeByte (h : SameOperation s t) : SameOperation s.takeByte t.takeByte :=
  { h with rxq := congrArg List.tail h.rxq }

/-- Completing alike keeps the states alike, where the output registers of the operation agree. -/
theorem SameOperation.complete (h : SameOperation s t) (code : ResultCode)
    (hm : modeOf s.op = .meas → s.dist = t.dist ∧ s.strength = t.strength ∧ s.temp = t.temp)
    (hv : s.op = 0x01 → s.verPatch = t.verPatch ∧ s.verMinor = t.verMinor ∧ s.verMajor = t.verMajor) :
    SameOperation (s.complete code) (t.complete code) :=
  { h with
    busy := rfl, done := rfl, phase := rfl, result := fun _ => rfl
    measurement := fun _ => hm, version := fun _ => hv }

theorem SameOperation.overrun (h : SameOperation s t) : SameOperation s.overrun t.overrun := { h with }

/-! ## ISSUE and HWRESET -/

/-- An accepted word starts from the pending bytes, the parameter, the labels to come and the free values alone. -/
theorem sameOperation_start (hq : s.rxq = t.rxq) (hstrict : s.measStrict = t.measStrict) (henv : s.env = t.env)
    (hfree : s.freeCtr = t.freeCtr) (op : Byte) (arg : Half) (p : Phase) :
    SameOperation ((s.latch op arg).start p) ((t.latch op arg).start p) where
  op := rfl
  arg := rfl
  busy := rfl
  done := rfl
  csumOk := rfl
  rxlen := rfl
  rxFrame := rfl
  txlen := rfl
  txFrame := (s.latch_txFrame op arg).trans (t.latch_txFrame op arg).symm
  txidx := rfl
  phase := rfl
  mode := rfl
  cnt := rfl
  prev59 := rfl
  lexp := rfl
  acc := rfl
  rxq := hq
  measStrict := hstrict
  env := henv
  freeCtr := hfree
  result := nofun
  measurement := nofun
  version := nofun

theorem sameOperation_accept (hq : s.rxq = t.rxq) (hstrict : s.measStrict = t.measStrict) (henv : s.env = t.env)
    (hfree : s.freeCtr = t.freeCtr) (op : Byte) (arg : Half) : SameOperation (s.accept op arg) (t.accept op arg) := by
  have hstart := sameOperation_start hq hstrict henv hfree op arg
  by_cases h0 : op = 0x00
  · subst h0
    rw [State.accept_getMeasurement, State.accept_getMeasurement]
    exact hstart .search
  · cases hl : legalOp op with
    | true =>
      rw [s.accept_of_sends arg hl h0, t.accept_of_sends arg hl h0]
      exact hstart .tx
    | false =>
      rw [s.accept_of_not_legal arg hl, t.accept_of_not_legal arg hl]
      have hcmd : modeOf op ≠ .meas := by rw [modeOf_of_not_legal hl]; nofun
      have h1 : op ≠ 0x01 := by
        rintro rfl
        cases hl
      exact (hstart .idle).complete .illegalOperation (fun hm => absurd hm hcmd) fun hv => absurd hv h1

theorem SameOperation.issue (h : SameOperation s t) (op : Byte) (arg : Half) :
    SameOperation (s.issue op arg) (t.issue op arg) := by
  cases hb : s.busy with
  | true =>
    rw [State.issue_of_busy hb, State.issue_of_busy (h.busy.symm.trans hb)]
    exact h.overrun
  | false =>
    rw [State.issue_of_not_busy hb, State.issue_of_not_busy (h.busy.symm.trans hb)]
    exact sameOperation_accept h.rxq h.measStrict h.env h.freeCtr op arg

/-- HWRESET leaves the transport, the parameter and the labels, and draws its free values from the counter. -/
theorem SameOperation.hwReset (h : SameOperation s t) : SameOperation s.hwReset t.hwReset where
  op := rfl
  arg := rfl
  busy := rfl
  done := rfl
  csumOk := rfl
  rxlen := rfl
  rxFrame := rfl
  txlen := rfl
  txFrame := rfl
  txidx := rfl
  phase := rfl
  mode := rfl
  cnt := rfl
  prev59 := rfl
  lexp := rfl
  acc := rfl
  rxq := h.rxq
  measStrict := h.measStrict
  env := h.env
  freeCtr := congrArg (· + 21) h.freeCtr
  result := nofun
  measurement := nofun
  version := nofun

/-! ## The block's moves -/

theorem SameOperation.txStep (h : SameOperation s t) (v : Byte) : SameOperation (s.txStep v) (t.txStep v) := by
  rcases s.txStep_cases v with ⟨hs, hse⟩ | ⟨hs, hse⟩ <;> rcases t.txStep_cases v with ⟨ht, hte⟩ | ⟨ht, hte⟩ <;>
    rw [hse, hte] <;> rw [h.txidx, h.txlen] at hs
  · exact { h with txidx := h.txlen, phase := rfl }
  · exact absurd hs ht
  · exact absurd ht hs
  · exact { h with txidx := congrArg (· + 1) h.txidx }

theorem freeMeasurement_same (h : s.freeCtr = t.freeCtr) :
    s.freeMeasurement.dist = t.freeMeasurement.dist ∧ s.freeMeasurement.strength = t.freeMeasurement.strength ∧
      s.freeMeasurement.temp = t.freeMeasurement.temp := by
  simp only [State.freeMeasurement, h, and_self]

theorem freeVersion_same (h : s.freeCtr = t.freeCtr) :
    s.freeVersion.verPatch = t.freeVersion.verPatch ∧ s.freeVersion.verMinor = t.freeVersion.verMinor ∧
      s.freeVersion.verMajor = t.freeVersion.verMajor := by
  simp only [State.freeVersion, h, and_self]

/-- The free values of a failed search are those of the counter (log entry 3). -/
theorem SameOperation.freeOutputs_complete (h : SameOperation s t) (code : ResultCode) :
    SameOperation (s.freeOutputs.complete code) (t.freeOutputs.complete code) := by
  have hfree : s.freeCtr + 3 = t.freeCtr + 3 := congrArg (· + 3) h.freeCtr
  rw [State.freeOutputs, State.freeOutputs, ← h.op]
  by_cases hmeas : s.op = Config.codeGetMeasurement ∨ s.op = Config.codeTrigger
  · have h1 : s.op ≠ 0x01 := by rintro h1; rw [h1] at hmeas; revert hmeas; decide
    have hsame := freeMeasurement_same h.freeCtr
    rw [if_pos hmeas, if_pos hmeas]
    exact SameOperation.complete (s := s.freeMeasurement) (t := t.freeMeasurement)
      { h with freeCtr := hfree, measurement := fun _ _ => hsame } code (fun _ => hsame) fun hv => absurd hv h1
  · have hcmd : modeOf s.op ≠ .meas := by rw [modeOf, if_neg hmeas]; nofun
    rw [if_neg hmeas, if_neg hmeas]
    by_cases hver : s.op = Config.codeVersion
    · have hsame := freeVersion_same h.freeCtr
      rw [if_pos hver, if_pos hver]
      exact SameOperation.complete (s := s.freeVersion) (t := t.freeVersion)
        { h with freeCtr := hfree, version := fun _ _ => hsame } code (fun hm => absurd hm hcmd) fun _ => hsame
    · rw [if_neg hver, if_neg hver]
      exact h.complete code (fun hm => absurd hm hcmd) fun hv => absurd hv hver

theorem SameOperation.searchTimeout (h : SameOperation s t) : SameOperation s.searchTimeout t.searchTimeout :=
  SameOperation.freeOutputs_complete (s := { s with cnt := 31 }) (t := { t with cnt := 31 }) { h with cnt := rfl } .timeout

theorem SameOperation.discard (h : SameOperation s t) : SameOperation s.discard t.discard := by
  rw [State.discard, State.discard, h.cnt]
  split
  · exact h.searchTimeout
  · exact { h with cnt := rfl }

theorem SameOperation.headerCmd (h : SameOperation s t) : SameOperation s.headerCmd t.headerCmd :=
  { h with
    rxlen := rfl, acc := rfl, phase := rfl, rxFrame := s.headerCmd_rxFrame.trans t.headerCmd_rxFrame.symm }

theorem SameOperation.headerMeas (h : SameOperation s t) : SameOperation s.headerMeas t.headerMeas :=
  { h with
    rxlen := rfl, acc := rfl, prev59 := rfl, phase := rfl
    rxFrame := s.headerMeas_rxFrame.trans t.headerMeas_rxFrame.symm }

theorem SameOperation.searchStep (h : SameOperation s t) (b : Byte) :
    SameOperation (s.searchStep b) (t.searchStep b) := by
  cases hm : s.mode with
  | cmd =>
    rw [State.searchStep_cmd hm, State.searchStep_cmd (h.mode.symm.trans hm)]
    split
    · exact h.takeByte.headerCmd
    · exact h.takeByte.discard
  | meas =>
    rw [State.searchStep_meas hm, State.searchStep_meas (h.mode.symm.trans hm), h.prev59]
    split
    · split
      · exact h.takeByte.headerMeas
      · exact { h.takeByte with prev59 := rfl }
    · exact SameOperation.discard { h.takeByte with prev59 := rfl }

theorem SameOperation.storeByte (h : SameOperation s t) (b : Byte) (h9 : s.rxlen.toNat < 9) :
    SameOperation (s.storeByte b) (t.storeByte b) :=
  { h.takeByte with
    rxlen := congrArg (· + 1) h.rxlen
    acc := congrArg (accAdd · b) h.acc
    rxFrame := by
      rw [s.storeByte_rxFrame b h9, t.storeByte_rxFrame b (h.rxlen ▸ h9), h.rxFrame] }

theorem SameOperation.storeLast (h : SameOperation s t) (b : Byte) (h9 : s.rxlen.toNat < 9)
    (hlast : s.rxlen.toNat + 1 = s.lexp.toNat) : SameOperation (s.storeLast b) (t.storeLast b) :=
  { h.takeByte with
    rxlen := h.lexp
    csumOk := congrArg (accVerdict · b) h.acc
    rxFrame := by
      have hlast' : t.rxlen.toNat + 1 = t.lexp.toNat := by rw [← h.rxlen, ← h.lexp, hlast]
      rw [s.storeLast_rxFrame b h9 hlast, t.storeLast_rxFrame b (h.rxlen ▸ h9) hlast', h.rxFrame] }

/-- A finishing step reads the frame, the verdict and, for the echo, the command that was sent. -/
theorem SameOperation.finishBy (h : SameOperation s t) {F : List Byte} (hr : ReadForm s.op F)
    (htx : s.op = 0x03 → s.txbuf = t.txbuf) :
    SameOperation (finishBy s.op F s) (Machine.finishBy s.op F t) := by
  generalize hop : s.op = op at hr
  cases hr with
  | meas hm dL dH sL sH tL tH c =>
    have h1 : s.op ≠ 0x01 := by rw [hop]; rintro rfl; revert hm; decide
    rw [finishBy_meas hm, finishBy_meas hm, State.finishMeasurement_eq, State.finishMeasurement_eq, h.measStrict, h.csumOk]
    refine SameOperation.complete ?_ _ (fun _ => ⟨rfl, rfl, rfl⟩) fun hv => absurd hv h1
    exact { h with csumOk := rfl, measStrict := rfl, measurement := fun _ _ => ⟨rfl, rfl, rfl⟩ }
  | echo e1 e2 e3 e4 c =>
    rw [finishBy_echo, finishBy_echo, State.finishEcho_eq, State.finishEcho_eq, h.csumOk, htx hop]
    exact h.complete _ (fun hm => by rw [hop] at hm; cases hm) fun hv => by rw [hop] at hv; cases hv
  | version r q p m j c =>
    have hcmd : modeOf s.op ≠ .meas := by rw [hop]; decide
    rw [finishBy_version, finishBy_version, State.finishVersion_eq, State.finishVersion_eq, h.csumOk]
    refine SameOperation.complete ?_ _ (fun hm => absurd hm hcmd) fun _ => ⟨rfl, rfl, rfl⟩
    exact { h with csumOk := rfl, version := fun _ _ => ⟨rfl, rfl, rfl⟩ }
  | status ctx r q p c =>
    have hcmd : modeOf s.op ≠ .meas := by rw [hop]; cases ctx <;> decide
    have h1 : s.op ≠ 0x01 := by rw [hop]; cases ctx <;> decide
    rw [finishBy_status, finishBy_status, State.finishStatus_eq, State.finishStatus_eq, h.csumOk]
    exact h.complete _ (fun hm => absurd hm hcmd) fun hv => absurd hv h1

/-- The move in phase TX, once it is known to go on. -/
theorem blockStep_next_of_tx {s t : State} (hp : s.phase = .tx) (hs : blockStep s = .next t) :
    ∃ v, s.txFrame[s.txidx.toNat]? = some v ∧ t = s.txStep v := by
  rcases blockStep_next hs with ⟨hwait, -⟩ | ⟨-, -, -, hv⟩ | ⟨hp', -⟩ | ⟨hp', -⟩ | ⟨hp', -⟩
  · simp [hp] at hwait
  · exact hv
  · cases hp.symm.trans hp'
  · cases hp.symm.trans hp'
  · cases hp.symm.trans hp'

/-- SET_FRAME_RATE fills TXBUF with its command (R136), so that the defined bytes are all of it. -/
theorem SameOperation.txbuf_eq (h : SameOperation s t) (h6 : s.txlen = 6) : s.txbuf = t.txbuf := by
  have hframe {u : State} (hu : u.txlen = 6) : u.txFrame = u.txbuf.toList := by
    rw [State.txFrame, hu]
    exact List.take_of_length_le (by simp)
  have hlist := h.txFrame
  rw [hframe h6, hframe (h.txlen.symm.trans h6)] at hlist
  exact Vector.toList_inj.mp hlist

theorem SameOperation.blockStep (h : SameOperation s t) (h6 : s.op = 0x03 → s.txlen = 6) {s' t' : State}
    (hs : Machine.blockStep s = .next s') (ht : Machine.blockStep t = .next t') : SameOperation s' t' := by
  rcases blockStep_next hs with ⟨hwait, rfl⟩ | ⟨hp, -, -, v, hv, rfl⟩ | ⟨hp, b, q, hq, rfl⟩ |
    ⟨hp, b, q, hq, hmore, h9, rfl⟩ | ⟨hp, b, q, hq, hlast, h9, hr, rfl⟩
  · have hstay : Machine.blockStep t = .next t := by
      rw [h.phase, h.rxq] at hwait
      rcases hwait with hidle | ⟨hp, hq⟩
      · exact blockStep_idle hidle
      · exact blockStep_wait hp hq
    cases hstay.symm.trans ht
    exact h
  · obtain ⟨v', hv', rfl⟩ := blockStep_next_of_tx (h.phase.symm.trans hp) ht
    rw [h.txFrame, h.txidx, hv'] at hv
    cases hv
    exact h.txStep v
  · cases (blockStep_search (h.phase.symm.trans hp) (h.rxq.symm.trans hq)).symm.trans ht
    exact h.searchStep b
  · rw [h.lexp] at h9
    have hmore' : t.rxlen.toNat + 1 < t.lexp.toNat := by rw [← h.rxlen, ← h.lexp]; exact hmore
    cases (blockStep_store (h.phase.symm.trans hp) (h.rxq.symm.trans hq) hmore' h9).symm.trans ht
    exact h.storeByte b (by rw [h.rxlen]; omega)
  · have hlast' : t.rxlen.toNat + 1 = t.lexp.toNat := by rw [← h.rxlen, ← h.lexp, hlast]
    have hr' : ReadForm t.op (t.rxFrame ++ [b]) := by rw [← h.op, ← h.rxFrame]; exact hr
    cases (blockStep_finish (h.phase.symm.trans hp) (h.rxq.symm.trans hq) hlast' (h.lexp ▸ h9) hr').symm.trans ht
    rw [← h.op, ← h.rxFrame]
    exact (h.storeLast b (by omega) hlast).finishBy hr fun h3 => h.txbuf_eq (h6 h3)

/-! ## A step, and a run -/

/-- The command of SET_FRAME_RATE is six bytes long (R136). -/
theorem State.accept_txlen (s : State) (op : Byte) (arg : Half) :
    (s.accept op arg).op = 0x03 → (s.accept op arg).txlen = 6 := by
  have hlatch {u : State} (hop : u.op = op) (hlen : u.txlen = BitVec.ofNat 3 (cmdFrame op arg).length) :
      u.op = 0x03 → u.txlen = 6 := by
    intro h3
    rw [hlen, ← hop, h3]
    rfl
  by_cases h0 : op = 0x00
  · subst h0
    rw [State.accept_getMeasurement]
    exact hlatch rfl rfl
  · cases hl : legalOp op with
    | true =>
      rw [s.accept_of_sends arg hl h0]
      exact hlatch rfl rfl
    | false =>
      rw [s.accept_of_not_legal arg hl]
      exact hlatch rfl rfl

/-- Every step keeps that length. -/
theorem step_keeps_txlen {s' : State} (h6 : s.op = 0x03 → s.txlen = 6) (hs : step s = .next s') :
    s'.op = 0x03 → s'.txlen = 6 := by
  rcases step_next hs with ⟨w, -, rfl⟩ | ⟨b, -, rfl⟩ | ⟨-, rfl⟩ | ⟨-, hmove⟩
  · cases hb : s.busy with
    | true =>
      rw [State.issue_of_busy (s := s.dropEvent) hb]
      exact h6
    | false =>
      rw [State.issue_of_not_busy (s := s.dropEvent) hb]
      exact s.dropEvent.accept_txlen _ _
  · exact h6
  · nofun
  · obtain ⟨hop, -, -, -, hlen, -⟩ := blockStep_keeps hmove
    rw [hop, hlen]
    exact h6

theorem SameOperation.step (h : SameOperation s t) (h6 : s.op = 0x03 → s.txlen = 6) {s' t' : State}
    (hs : Machine.step s = .next s') (ht : Machine.step t = .next t') : SameOperation s' t' := by
  have hlabel : t.nextEvent = (s.nextEvent.1, t.dropEvent) := by
    rw [State.nextEvent, State.nextEvent, h.env]
  rcases step_next hs with ⟨w, hw, rfl⟩ | ⟨b, hb, rfl⟩ | ⟨hreset, rfl⟩ | ⟨hblock, hmove⟩
  · rw [hw] at hlabel
    cases (step_of_issue hlabel).symm.trans ht
    exact h.dropEvent.issue _ _
  · rw [hb] at hlabel
    cases (step_of_deliver hlabel).symm.trans ht
    exact h.dropEvent.deliver b
  · rw [hreset] at hlabel
    cases (step_of_hwReset hlabel).symm.trans ht
    exact h.dropEvent.hwReset
  · rw [hblock] at hlabel
    exact h.dropEvent.blockStep h6 hmove ((step_of_block hlabel).symm.trans ht)

theorem SameOperation.run {n : Nat} {s' t' : State} (h : SameOperation s t) (h6 : s.op = 0x03 → s.txlen = 6)
    (hs : RunsTo n s s') (ht : RunsTo n t t') : SameOperation s' t' := by
  induction n generalizing s t with
  | zero =>
    cases hs
    cases ht
    exact h
  | succ n ih =>
    obtain ⟨s1, hs1, hs⟩ := hs.exists_head
    obtain ⟨t1, ht1, ht⟩ := ht.exists_head
    exact ih (h.step h6 hs1 ht1) (step_keeps_txlen h6 hs1) hs ht

end

/-- Settles O38: the accepted word makes the two states alike, and every step keeps them so. -/
theorem noStateCarriesOver : Obligations.NoStateCarriesOver := by
  intro n s t s' t' w rest hbs hbt hs henv hq hstrict hfree hruns hrunt
  obtain ⟨s1, hs1, hruns⟩ := RunsTo.exists_head hruns
  obtain ⟨t1, ht1, hrunt⟩ := RunsTo.exists_head hrunt
  rw [step_of_issue (State.nextEvent_of_cons hs), State.issue_of_not_busy (s := { s with env := rest }) hbs] at hs1
  rw [step_of_issue (State.nextEvent_of_cons (henv.trans hs)),
    State.issue_of_not_busy (s := { t with env := rest }) hbt] at ht1
  cases hs1
  cases ht1
  have hstart := sameOperation_accept (s := { s with env := rest }) (t := { t with env := rest }) hq.symm hstrict.symm rfl
    hfree.symm (opOf w) (argOf w)
  exact hstart.run (State.accept_txlen _ _ _) hruns hrunt

end Sys2Proof.Machine

/-! PROOFS about whole operations (spec/44_operations.md): the machine left to itself sends the command, then ends a search and
a tail read as the pure readers do, byte by byte; the outcome of the operation is read off the state it ends in. -/

namespace Sys2Proof.Machine

/-! ## The registers that a search and a tail read write -/

/-- The pending bytes and the registers that the block writes while it looks for a frame and stores it. -/
structure ReadRegs where
  rxq : List Byte
  cnt : BitVec 5
  prev59 : Bool
  rxbuf : Vector Byte 9
  rxlen : BitVec 4
  acc : Byte
  phase : Phase

def State.readRegs (s : State) : ReadRegs where
  rxq := s.rxq
  cnt := s.cnt
  prev59 := s.prev59
  rxbuf := s.rxbuf
  rxlen := s.rxlen
  acc := s.acc
  phase := s.phase

def State.withRead (s : State) (r : ReadRegs) : State :=
  { s with
    rxq := r.rxq, cnt := r.cnt, prev59 := r.prev59, rxbuf := r.rxbuf, rxlen := r.rxlen, acc := r.acc, phase := r.phase }

/-- The same with the verdict on the frame `F`, as the finishing step finds them. -/
def State.judged (s : State) (r : ReadRegs) (F : List Byte) : State :=
  { s.withRead r with csumOk := frameVerdict s.op F }

/-- The machine left to itself ends as a reader does: it waits, or its search fails, or it finishes the frame that the reader
found, one step per byte taken. -/
def State.EndsAs (s : State) : ReadOutcome → Prop
  | .starved => ∃ k r, RunsTo k s (s.withRead r) ∧ (r.phase = .search ∨ r.phase = .tail) ∧ r.rxq = []
  | .notFound rest => ∃ k r, RunsTo k s (s.withRead r).searchTimeout ∧ k + rest.length = s.rxq.length ∧ r.rxq = rest ∧
      r.rxlen = 0
  | .frame n F rest => ∃ k r, RunsTo k s (finishBy s.op F (s.judged r F)) ∧
      k + rest.length = s.rxq.length ∧ r.rxq = rest ∧ r.cnt.toNat = n ∧ r.rxlen = s.lexp ∧
      r.rxbuf.toList.take s.lexp.toNat = F ∧ ReadForm s.op F

/-- A step that takes a byte and writes only these registers comes before. -/
theorem State.EndsAs.of_step {s : State} {b : Byte} {r : ReadRegs} {o : ReadOutcome} (hq : s.rxq = b :: r.rxq)
    (hs : step s = .next (s.withRead r)) (h : (s.withRead r).EndsAs o) : s.EndsAs o := by
  have hlen : s.rxq.length = r.rxq.length + 1 := by rw [hq]; rfl
  cases o with
  | starved =>
    obtain ⟨k, r', hrun, hwait⟩ := h
    exact ⟨k + 1, r', RunsTo.head hs hrun, hwait⟩
  | notFound rest =>
    obtain ⟨k, r', hrun, hk, hend⟩ := h
    have hk' : k + rest.length = r.rxq.length := hk
    exact ⟨k + 1, r', RunsTo.head hs hrun, by omega, hend⟩
  | frame n F rest =>
    obtain ⟨k, r', hrun, hk, hend⟩ := h
    have hk' : k + rest.length = r.rxq.length := hk
    exact ⟨k + 1, r', RunsTo.head hs hrun, by omega, hend⟩

/-- With no byte pending the block waits. -/
theorem State.endsAs_starved {s : State} (hp : s.phase = .search ∨ s.phase = .tail) (hq : s.rxq = []) :
    s.EndsAs .starved := ⟨0, s.readRegs, RunsTo.refl s, hp, hq⟩

/-! ## The tail read (R196, R197) -/

theorem readTail_cons (hdr : List Byte) (n cnt : Nat) (b : Byte) (q : List Byte) :
    readTail hdr (n + 1) cnt (b :: q) = readTail (hdr ++ [b]) n cnt q := by
  simp only [readTail, List.length_cons, Nat.add_le_add_iff_right, List.take_succ_cons, List.drop_succ_cons,
    List.append_assoc, List.singleton_append]

theorem readTail_zero (hdr : List Byte) (cnt : Nat) (q : List Byte) : readTail hdr 0 cnt q = .frame cnt hdr q := by
  rw [readTail, if_pos (Nat.zero_le _), List.take_zero, List.append_nil, List.drop_zero]

/-- In phase TAIL, with `n + 1` bytes missing and ACC the sum of what is stored. -/
theorem State.endsAs_readTail : ∀ (n : Nat) (s : State), s.phase = .tail → s.env = [] → s.lexp.toNat ≤ 9 →
    s.rxlen.toNat + (n + 1) = s.lexp.toNat → s.acc = sum8 s.rxFrame →
    (∀ G : List Byte, G.length = n + 1 → ReadForm s.op (s.rxFrame ++ G)) →
    s.EndsAs (readTail s.rxFrame (n + 1) s.cnt.toNat s.rxq) := by
  intro n s hp henv h9 hn hacc hform
  cases hq : s.rxq with
  | nil =>
    rw [readTail_of_short (Nat.succ_pos n)]
    exact State.endsAs_starved (.inr hp) hq
  | cons b q =>
    rw [readTail_cons]
    cases n with
    | zero =>
      have hr := hform [b] rfl
      have hstep := (step_of_nil henv).trans (blockStep_finish hp hq hn h9 hr)
      have hverdict : accVerdict s.acc b = frameVerdict s.op (s.rxFrame ++ [b]) := by
        rw [accVerdict, hacc]
        exact sum8_beq_last hr
      have hF := s.storeLast_rxFrame b (by omega) hn
      rw [readTail_zero]
      refine ⟨1, (s.storeLast b).readRegs, ?_, ?_, ?_, rfl, rfl, hF, hr⟩
      · rw [State.judged, ← hverdict]
        exact RunsTo.head hstep (RunsTo.refl _)
      · rw [hq, List.length_cons, Nat.add_comm]
      · show s.rxq.tail = q
        rw [hq, List.tail_cons]
    | succ n =>
      have hstep := (step_of_nil henv).trans (blockStep_store hp hq (by omega) h9)
      have hF := s.storeByte_rxFrame b (by omega)
      have hsucc : (s.storeByte b).rxlen.toNat = s.rxlen.toNat + 1 := by
        rw [State.storeByte_rxlen]
        bv_omega
      have hacc' : (s.storeByte b).acc = sum8 (s.storeByte b).rxFrame := by
        rw [hF, sum8_append, ← hacc, sum8_cons, sum8_nil, add_zero, State.storeByte_acc, accAdd]
      have hform' (G : List Byte) (hG : G.length = n + 1) : ReadForm s.op ((s.storeByte b).rxFrame ++ G) := by
        rw [hF, List.append_assoc]
        exact hform ([b] ++ G) (by rw [List.length_append, hG, List.length_singleton, Nat.add_comm])
      have htail : (s.storeByte b).rxq = q := by rw [State.storeByte_rxq, hq, List.tail_cons]
      have ih := State.endsAs_readTail n (s.storeByte b) hp henv h9
        (by rw [hsucc, State.storeByte_lexp]; omega) hacc' hform'
      rw [hF, htail] at ih
      exact State.EndsAs.of_step (r := (s.storeByte b).readRegs) (by rw [hq]; exact congrArg _ htail.symm) hstep ih

/-! ## The search (R191, R194) -/

theorem readerOf_meas {op : Byte} (hm : modeOf op = .meas) (q : List Byte) : readerOf op q = readMeas 0 false q := by
  simp only [readerOf, hm, readMeasFrame]

/-- In phase SEARCH of a legal operation, with its registers as its ISSUE left them and the budget not passed. -/
structure State.Searches (s : State) : Prop where
  phase : s.phase = .search
  env : s.env = []
  cnt : s.cnt.toNat ≤ 30
  legal : legalOp s.op = true
  mode : s.mode = modeOf s.op
  lexp : s.lexp = lexpOf s.op
  rxlen : s.rxlen = 0

/-- From the header on the machine reads the tail (R192, R195). -/
theorem State.Searches.endsAs_header {s : State} (h : s.Searches) {b : Byte} {r : ReadRegs} (hq : s.rxq = b :: r.rxq)
    (hs : step s = .next (s.withRead r)) (hp : r.phase = .tail)
    (hF : (s.withRead r).rxFrame = headerOf s.mode) (hn : r.rxlen.toNat = (headerOf s.mode).length)
    (ha : r.acc = sum8 (headerOf s.mode)) :
    s.EndsAs (readTail (headerOf s.mode) (s.lexp.toNat - (headerOf s.mode).length) r.cnt.toNat r.rxq) := by
  have hlt : (headerOf s.mode).length < s.lexp.toNat := by
    rw [h.mode, h.lexp]
    exact headerOf_length_lt h.legal
  have h9 : s.lexp.toNat ≤ 9 := by rw [h.lexp]; exact lexpOf_le s.op
  obtain ⟨n, hmissing⟩ : ∃ n, s.lexp.toNat - (headerOf s.mode).length = n + 1 :=
    ⟨s.lexp.toNat - (headerOf s.mode).length - 1, by omega⟩
  have hform (G : List Byte) (hG : G.length = n + 1) : ReadForm s.op ((s.withRead r).rxFrame ++ G) := by
    rw [hF]
    refine ReadForm.of_header h.legal ?_ ?_
    · rw [List.length_append, hG, ← h.lexp]
      omega
    · rw [← h.mode, List.take_left]
  rw [hmissing, ← hF]
  exact State.EndsAs.of_step hq hs (State.endsAs_readTail n (s.withRead r) hp h.env h9
    (by show r.rxlen.toNat + (n + 1) = s.lexp.toNat; omega) (ha.trans (congrArg sum8 hF.symm)) hform)

/-- A byte that is discarded: the search goes on, or it is the 31st and the search fails (R190, R198). -/
theorem State.Searches.endsAs_discard {s : State} (h : s.Searches) {b : Byte} {q : List Byte} {p : Bool} {o : ReadOutcome}
    (hq : s.rxq = b :: q) (hs : step s = .next (State.discard { s with rxq := q, prev59 := p }))
    (hfails : s.cnt.toNat = 30 → o = .notFound q)
    (hgoes : s.cnt.toNat < 30 → State.EndsAs { s with rxq := q, prev59 := p, cnt := s.cnt + 1 } o) : s.EndsAs o := by
  rcases Nat.lt_or_eq_of_le h.cnt with hlt | h30
  · rw [State.discard_of_lt (s := { s with rxq := q, prev59 := p }) hlt] at hs
    exact State.EndsAs.of_step (r := { s.readRegs with rxq := q, prev59 := p, cnt := s.cnt + 1 }) hq hs (hgoes hlt)
  · have hcnt : s.cnt = 30 := BitVec.eq_of_toNat_eq h30
    rw [State.discard_of_eq (s := { s with rxq := q, prev59 := p }) hcnt] at hs
    rw [hfails h30]
    refine ⟨1, { s.readRegs with rxq := q, prev59 := p }, RunsTo.head hs (RunsTo.refl _), ?_, rfl, h.rxlen⟩
    rw [hq, List.length_cons, Nat.add_comm]

theorem State.Searches.discarded {s : State} (h : s.Searches) (hlt : s.cnt.toNat < 30) (q : List Byte) (p : Bool) :
    State.Searches { s with rxq := q, prev59 := p, cnt := s.cnt + 1 } :=
  { h with cnt := by show (s.cnt + 1).toNat ≤ 30; bv_omega }

theorem State.Searches.step {s : State} {b : Byte} {q : List Byte} (h : s.Searches) (hq : s.rxq = b :: q) :
    Machine.step s = .next (s.searchStep b) := (step_of_nil h.env).trans (blockStep_search h.phase hq)

/-- The command-mode search ends as its reader (R191, R192). -/
theorem State.Searches.endsAs_readCmd : ∀ (q : List Byte) (s : State), s.Searches → s.mode = .cmd → s.rxq = q →
    s.EndsAs (readCmd s.lexp.toNat s.cnt.toNat q)
  | [], s, h, _, hq => State.endsAs_starved (.inl h.phase) hq
  | b :: q, s, h, hm, hq => by
    have hstep := h.step hq
    rw [State.searchStep_cmd hm, State.takeByte_of_cons hq] at hstep
    by_cases hb : b = 0x5A
    · rw [if_pos hb] at hstep
      subst hb
      have htail := h.endsAs_header (r := (State.headerCmd { s with rxq := q }).readRegs) hq hstep rfl
        (by rw [hm]; exact State.headerCmd_rxFrame _) (by rw [hm]; rfl) (by rw [hm]; rfl)
      rw [hm] at htail
      rw [readCmd_header]
      exact htail
    · rw [if_neg hb] at hstep
      refine h.endsAs_discard (p := s.prev59) hq hstep (fun h30 => readCmd_full _ hb h30 q) fun hlt => ?_
      have hcnt : s.cnt.toNat + 1 = (s.cnt + 1).toNat := by bv_omega
      rw [readCmd_skip _ hb (Nat.ne_of_lt hlt), hcnt]
      exact State.Searches.endsAs_readCmd q _ (h.discarded hlt q s.prev59) hm rfl

theorem lexpOf_of_meas {op : Byte} (h : modeOf op = .meas) : lexpOf op = 9 := by
  rw [modeOf_eq] at h
  split at h
  next hop => exact if_pos hop
  next => cases h

/-- The measurement-mode search ends as its reader (R194, R195). -/
theorem State.Searches.endsAs_readMeas : ∀ (q : List Byte) (s : State), s.Searches → s.mode = .meas → s.rxq = q →
    s.EndsAs (readMeas s.cnt.toNat s.prev59 q)
  | [], s, h, _, hq => State.endsAs_starved (.inl h.phase) hq
  | b :: q, s, h, hm, hq => by
    have hstep := h.step hq
    rw [State.searchStep_meas hm, State.takeByte_of_cons hq] at hstep
    by_cases hb : b = 0x59
    · rw [if_pos hb] at hstep
      subst hb
      cases hp : s.prev59 with
      | true =>
        have h9 : s.lexp.toNat = 9 := by
          rw [h.lexp, lexpOf_of_meas (h.mode.symm.trans hm)]
          rfl
        rw [if_pos hp] at hstep
        have htail := h.endsAs_header (r := (State.headerMeas { s with rxq := q }).readRegs) hq hstep rfl
          (by rw [hm]; exact State.headerMeas_rxFrame _) (by rw [hm]; rfl) (by rw [hm]; rfl)
        rw [hm, h9] at htail
        rw [readMeas_header]
        exact htail
      | false =>
        rw [if_neg (Bool.eq_false_iff.mp hp)] at hstep
        rw [readMeas_first]
        exact State.EndsAs.of_step (r := { s.readRegs with rxq := q, prev59 := true }) hq hstep
          (State.Searches.endsAs_readMeas q { s with rxq := q, prev59 := true } { h with } hm rfl)
    · rw [if_neg hb] at hstep
      refine h.endsAs_discard (p := false) hq hstep (fun h30 => readMeas_full _ hb h30 q) fun hlt => ?_
      have hcnt : s.cnt.toNat + 1 = (s.cnt + 1).toNat := by bv_omega
      rw [readMeas_skip _ hb (Nat.ne_of_lt hlt), hcnt]
      exact State.Searches.endsAs_readMeas q _ (h.discarded hlt q false) hm rfl

/-- A search from its start ends as the reader of the operation (R232). -/
theorem State.Searches.endsAs_readerOf {s : State} (h : s.Searches) (hc : s.cnt = 0) (hp : s.prev59 = false) :
    s.EndsAs (readerOf s.op s.rxq) := by
  cases hm : s.mode with
  | cmd =>
    have hend := h.endsAs_readCmd s.rxq s hm rfl
    rw [hc, h.lexp] at hend
    rw [readerOf_cmd (h.mode.symm.trans hm)]
    exact hend
  | meas =>
    have hend := h.endsAs_readMeas s.rxq s hm rfl
    rw [hc, hp] at hend
    rw [readerOf_meas (h.mode.symm.trans hm)]
    exact hend

end Sys2Proof.Machine

/-! PROOFS about whole operations, concluded: from the accepted word to the search, and from the end of the run to the
registers that the host reads. -/

namespace Sys2Proof.Machine

/-! ## From the word to the search (R221, R224) -/

/-- The command of the operation has been sent and the search begins. -/
def State.commandSent (op : Byte) (arg : Half) (s : State) : State :=
  { (s.latch op arg).start .search with
    txlog := s.txlog ++ cmdFrame op arg, txidx := BitVec.ofNat 3 (cmdFrame op arg).length, env := [] }

theorem State.commandSent_searches (s : State) {op : Byte} (arg : Half) (hl : legalOp op = true) :
    (s.commandSent op arg).Searches where
  phase := rfl
  env := rfl
  cnt := Nat.zero_le _
  legal := hl
  mode := rfl
  lexp := rfl
  rxlen := rfl

theorem State.accept_env (s : State) (op : Byte) (arg : Half) : (s.accept op arg).env = s.env := by
  unfold State.accept
  split
  · rfl
  · split <;> rfl

theorem step_of_word {s : State} {op : Byte} {arg : Half} (hb : s.busy = false) (henv : s.env = [.issue (opWord op arg)]) :
    step s = .next (State.accept op arg { s with env := [] }) := by
  rw [step_of_issue (State.nextEvent_of_cons henv), State.issue_of_not_busy (s := { s with env := [] }) hb, opOf_opWord,
    argOf_opWord]

/-- From the start of phase TX the whole command frame is sent. -/
theorem runsTo_commandSent_of_tx {s : State} {op : Byte} (arg : Half) (henv : s.env = []) (hl : legalOp op = true)
    (h0 : op ≠ 0x00) : RunsTo (cmdFrame op arg).length ((s.latch op arg).start .tx) (s.commandSent op arg) := by
  obtain ⟨i, hd⟩ := decodeSent_cmdFrame arg hl h0
  obtain ⟨k, hk⟩ := Nat.exists_eq_succ_of_ne_zero (cmdFrame_length_pos arg hl h0).ne'
  have hframe := s.latch_txFrame op arg
  have hlen := s.latch_txlen_toNat op arg
  have hrun := runsTo_search_of_sending k ((s.latch op arg).start .tx) rfl henv (hframe ▸ hd)
    (hlen.trans_le (cmdFrame_length_le op arg)) ((Nat.zero_add _).trans (hk.symm.trans hlen.symm))
  have hall : ((s.latch op arg).start .tx).txFrame.drop ((s.latch op arg).start .tx).txidx.toNat = cmdFrame op arg := hframe
  rw [hall] at hrun
  rw [hk, State.commandSent, ← henv]
  exact hrun

/-- A legal word is accepted in one step, and its command frame sent in as many as it has bytes. -/
theorem runsTo_commandSent {s : State} {op : Byte} {arg : Half} (hb : s.busy = false)
    (henv : s.env = [.issue (opWord op arg)]) (hl : legalOp op = true) :
    RunsTo ((cmdFrame op arg).length + 1) s (s.commandSent op arg) := by
  have hstep := step_of_word hb henv
  by_cases h0 : op = 0x00
  · subst h0
    have hlog : s.txlog ++ cmdFrame 0x00 arg = s.txlog := List.append_nil s.txlog
    rw [State.accept_getMeasurement] at hstep
    rw [State.commandSent, hlog]
    exact RunsTo.head hstep (RunsTo.refl _)
  · rw [State.accept_of_sends _ arg hl h0] at hstep
    exact RunsTo.head hstep (runsTo_commandSent_of_tx (s := { s with env := [] }) arg rfl hl h0)

/-! ## How many steps (R199, R205) -/

/-- What a reader leaves of the stream. -/
def ReadOutcome.left : ReadOutcome → List Byte
  | .starved => []
  | .notFound rest => rest
  | .frame _ _ rest => rest

theorem CmdTakes.length_le {L cnt : Nat} {q : List Byte} {o : ReadOutcome} (h : CmdTakes L cnt q o) (hL : L ≤ 9) :
    q.length ≤ o.left.length + 69 := by
  cases o with
  | starved =>
    have h' : cnt + q.length < 30 + L := h
    show q.length ≤ 0 + 69
    omega
  | notFound rest =>
    have h' : cnt + q.length = 31 + rest.length := h
    show q.length ≤ rest.length + 69
    omega
  | frame c F rest =>
    obtain ⟨hc, -, hlen⟩ := h
    show q.length ≤ rest.length + 69
    omega

theorem MeasTakes.length_le {cnt : Nat} {p : Bool} {q : List Byte} {o : ReadOutcome} (h : MeasTakes cnt p q o) :
    q.length ≤ o.left.length + 69 := by
  cases o with
  | starved =>
    have h' : 2 * cnt + p.toNat + q.length < 69 := h
    show q.length ≤ 0 + 69
    omega
  | notFound rest =>
    obtain ⟨-, hlen⟩ := h
    show q.length ≤ rest.length + 69
    omega
  | frame c F rest =>
    obtain ⟨hc, -, -, hlen⟩ := h
    show q.length ≤ rest.length + 69
    omega

/-- The longest reading is that of a measurement after 30 pairs of a 0x59 and another byte. -/
theorem readerOf_takes_le {op : Byte} (hl : legalOp op = true) (q : List Byte) :
    q.length ≤ (readerOf op q).left.length + 69 := by
  cases hm : modeOf op with
  | cmd =>
    have hL : 2 ≤ (lexpOf op).toNat := (Nat.succ_le_of_lt (headerOf_length_lt hl)).trans' (by rw [hm]; decide)
    rw [readerOf_cmd hm]
    exact (readCmd_takes hL q 0 (Nat.zero_le _)).length_le (lexpOf_le op)
  | meas =>
    rw [readerOf_meas hm]
    exact (readMeas_takes q 0 false (Nat.zero_le _)).length_le

/-! ## An operation without its bytes (R281) -/

/-- The block's move neither starts an operation nor takes back that one is done. -/
theorem blockStep_running {s t : State} (hs : blockStep s = .next t) (hb : t.busy = true) (hd : t.done = false) :
    s.busy = true ∧ s.done = false := by
  rcases blockStep_next hs with ⟨-, rfl⟩ | ⟨-, -, -, v, -, rfl⟩ | ⟨-, b, q, -, rfl⟩ | ⟨-, b, q, -, -, -, rfl⟩ |
    ⟨-, b, q, -, -, -, hr, rfl⟩
  · exact ⟨hb, hd⟩
  · rcases s.txStep_cases v with ⟨-, he⟩ | ⟨-, he⟩ <;> rw [he] at hb hd <;> exact ⟨hb, hd⟩
  · rcases s.searchStep_coarse b with ⟨_, _, _, _, he⟩ | ⟨_, _, he⟩ | ⟨-, _, _, _, _, _, _, _, _, he, -⟩ <;> rw [he] at hb hd
    · exact ⟨hb, hd⟩
    · exact ⟨hb, hd⟩
    · cases hb
  · exact ⟨hb, hd⟩
  · obtain ⟨code, d, st, te, pa, mi, ma, he, -⟩ := finishBy_cases hr (s.storeLast b)
    rw [he] at hb
    cases hb

/-- On the way to a wait of a running operation, and for ever after, that operation runs. -/
theorem runs_busy_of_wait {u : State} (hb : u.busy = true) (hd : u.done = false)
    (hp : u.phase = .search ∨ u.phase = .tail) (hq : u.rxq = []) (henvu : u.env = []) {m : Nat} :
    ∀ {s : State}, s.env = [] → RunsTo m s u → ∀ n, ∃ t, RunsTo n s t ∧ t.busy = true ∧ t.done = false := by
  induction m with
  | zero =>
    intro s _ hrun n
    cases hrun
    obtain ⟨ovr, hn⟩ := starvedOperationWaitsForever n u hb hp hq (by rw [henvu]; nofun)
    exact ⟨_, hn, hb, hd⟩
  | succ m ih =>
    intro s henv hrun n
    obtain ⟨s', hs, hrun'⟩ := hrun.exists_head
    have hmove : blockStep s = .next s' := (step_of_nil henv).symm.trans hs
    obtain ⟨-, -, -, -, -, -, -, henv'⟩ := blockStep_keeps hmove
    have ih := ih (henv'.trans henv) hrun'
    cases n with
    | zero =>
      obtain ⟨t, ht, hbt, hdt⟩ := ih 0
      cases ht
      obtain ⟨hbs, hds⟩ := blockStep_running hmove hbt hdt
      exact ⟨s, RunsTo.refl s, hbs, hds⟩
    | succ n =>
      obtain ⟨t, ht, hflags⟩ := ih n
      exact ⟨t, RunsTo.head hs ht, hflags⟩

/-- Settles O40: the reader of the operation is starved, so the run comes to a wait for the missing bytes. -/
theorem operationWithoutItsBytesStaysBusy : Obligations.OperationWithoutItsBytesStaysBusy := by
  intro n s op arg hb henv hnone
  have hl : legalOp op = true := by
    by_contra hl
    rw [operation, if_neg hl] at hnone
    cases hnone
  have hstarved : readerOf op s.rxq = .starved := by
    cases hr : readerOf op s.rxq with
    | starved => rfl
    | notFound rest => cases (operation_of_notFound hl hr arg s.measStrict).symm.trans hnone
    | frame cnt F rest => cases (operation_of_frame hl hr arg s.measStrict).symm.trans hnone
  have hends : (s.commandSent op arg).EndsAs (readerOf op s.rxq) := (s.commandSent_searches arg hl).endsAs_readerOf rfl rfl
  rw [hstarved] at hends
  obtain ⟨k, r, hread, hp, hq⟩ := hends
  obtain ⟨s', hs, hsend⟩ := (runsTo_commandSent hb henv hl).exists_head
  cases (step_of_word hb henv).symm.trans hs
  have henv' := State.accept_env { s with env := [] } op arg
  obtain ⟨t, ht, hbt, hdt⟩ := runs_busy_of_wait (u := (s.commandSent op arg).withRead r) rfl rfl hp hq rfl henv'
    (hsend.trans hread) n
  exact ⟨t, RunsTo.head hs ht, hbt, hdt⟩

/-! ## The outcome of an operation (R230 to R251) -/

theorem finishBy_measurement {op : Byte} {F : List Byte} {m : Measurement} (hr : ReadForm op F) (hm : modeOf op = .meas)
    (hF : mdec F = .ok m) (s : State) :
    (finishBy op F s).dist = m.dist ∧ (finishBy op F s).strength = m.strength ∧
      (finishBy op F s).temp = BitVec.ofInt 16 m.temp := by
  cases hr with
  | meas h dL dH sL sH tL tH c =>
    cases hF
    rw [finishBy_meas h, State.finishMeasurement_eq]
    exact ⟨rfl, rfl, rfl⟩
  | echo => cases hm
  | version => cases hm
  | status ctx => cases ctx <;> cases hm

theorem finishBy_version_registers {op f0 f1 f2 f3 f4 f5 f6 : Byte} {F : List Byte} (h1 : op = 0x01)
    (hF : F = [f0, f1, f2, f3, f4, f5, f6]) (s : State) :
    (finishBy op F s).verPatch = f3 ∧ (finishBy op F s).verMinor = f4 ∧ (finishBy op F s).verMajor = f5 := by
  subst h1 hF
  rw [finishBy_version, State.finishVersion_eq]
  exact ⟨rfl, rfl, rfl⟩

/-- What is said of the state `t` in which the operation `op` with the argument `arg`, issued in `s`, has the outcome `o`. -/
def State.HasOutcome (s : State) (op : Byte) (arg : Half) (o : OpOutcome) (t : State) : Prop :=
  t.done = true ∧ t.busy = false ∧ t.phase = .idle ∧ t.op = op ∧ t.arg = arg ∧
    t.result = o.result.number ∧ t.cnt.toNat = o.cnt ∧ t.rxFrame = o.frame ∧ t.csumOk = o.csumOk ∧
    t.rxq = o.rest ∧ t.txlog = s.txlog ++ cmdFrame op arg ∧ t.ovr = s.ovr ∧
    (∀ m, modeOf op = .meas → mdec o.frame = .ok m →
      t.dist = m.dist ∧ t.strength = m.strength ∧ t.temp = BitVec.ofInt 16 m.temp) ∧
    (∀ f0 f1 f2 f3 f4 f5 f6, op = 0x01 → o.frame = [f0, f1, f2, f3, f4, f5, f6] →
      t.verPatch = f3 ∧ t.verMinor = f4 ∧ t.verMajor = f5)

/-- A refused code completes in its ISSUE (R229). -/
theorem State.hasOutcome_of_refused (s : State) {op : Byte} (arg : Half) (hl : legalOp op = false) :
    s.HasOutcome op arg { result := .illegalOperation, cnt := 0, frame := [], csumOk := false, rest := s.rxq }
      (State.accept op arg { s with env := [] }) := by
  have hlog : s.txlog = s.txlog ++ cmdFrame op arg := by rw [cmdFrame_of_not_legal arg hl, List.append_nil]
  rw [State.accept_of_not_legal _ arg hl]
  refine ⟨rfl, rfl, rfl, rfl, rfl, rfl, rfl, rfl, rfl, rfl, hlog, rfl, fun m _ hF => ?_, fun _ _ _ _ _ _ _ h1 _ => ?_⟩
  · cases hF
  · rw [h1] at hl
    cases hl

/-- A failed search ends with Timeout, and the frame is empty (R198). -/
theorem State.hasOutcome_of_timeout (s : State) (op : Byte) (arg : Half) {r : ReadRegs} (hr : r.rxlen = 0) :
    s.HasOutcome op arg { result := .timeout, cnt := 31, frame := [], csumOk := false, rest := r.rxq }
      ((s.commandSent op arg).withRead r).searchTimeout := by
  obtain ⟨d, st, te, pa, mi, ma, fc, he, -, -⟩ := ((s.commandSent op arg).withRead r).searchTimeout_cases
  have hframe : r.rxbuf.toList.take r.rxlen.toNat = [] := by rw [hr]; rfl
  rw [he]
  refine ⟨rfl, rfl, rfl, rfl, rfl, rfl, rfl, hframe, rfl, rfl, rfl, rfl, fun m _ hF => ?_, fun _ _ _ _ _ _ _ _ hF => ?_⟩
  · cases hF
  · cases hF

/-- A finished frame gives its result, its verdict and its values (R230). -/
theorem State.hasOutcome_of_frame (s : State) {op : Byte} (arg : Half) {F : List Byte} {r : ReadRegs}
    (hr : ReadForm op F) (hlen : r.rxlen = lexpOf op) (hF : r.rxbuf.toList.take (lexpOf op).toNat = F) :
    s.HasOutcome op arg
      { result := judge op arg s.measStrict F, cnt := r.cnt.toNat, frame := F, csumOk := frameVerdict op F, rest := r.rxq }
      (finishBy op F ((s.commandSent op arg).judged r F)) := by
  have hframe : r.rxbuf.toList.take r.rxlen.toNat = F := by rw [hlen, hF]
  have htx : op = 0x03 → (loadTx (cmdFrame op arg) s.txbuf).toList = cmdFrame op arg := by
    intro h3
    subst h3
    exact congrArg Vector.toList (loadTx_six _ _ _ _ _ _ s.txbuf)
  have hresult := finishBy_result hr arg ((s.commandSent op arg).judged r F) rfl htx
  have hmeas (m : Measurement) (hm : modeOf op = .meas) (hdec : mdec F = .ok m) :=
    finishBy_measurement hr hm hdec ((s.commandSent op arg).judged r F)
  have hver (f0 f1 f2 f3 f4 f5 f6 : Byte) (h1 : op = 0x01) (h7 : F = [f0, f1, f2, f3, f4, f5, f6]) :=
    finishBy_version_registers h1 h7 ((s.commandSent op arg).judged r F)
  obtain ⟨code, d, st, te, pa, mi, ma, he, -⟩ := finishBy_cases hr ((s.commandSent op arg).judged r F)
  rw [he] at hresult hmeas hver ⊢
  exact ⟨rfl, rfl, rfl, rfl, rfl, hresult, rfl, hframe, rfl, rfl, rfl, rfl, hmeas, hver⟩

/-- Settles O39: the command is sent, and the run ends as the reader of the operation does. -/
theorem operationRefinesItsOutcome : Obligations.OperationRefinesItsOutcome := by
  intro s op arg o hb henv ho
  cases hl : legalOp op with
  | false =>
    rw [operation, hl] at ho
    cases ho
    exact ⟨1, _, by decide, RunsTo.head (step_of_word hb henv) (RunsTo.refl _), s.hasOutcome_of_refused arg hl⟩
  | true =>
    have hsend := runsTo_commandSent hb henv hl
    have h6 := cmdFrame_length_le op arg
    have htakes := readerOf_takes_le hl s.rxq
    have hends : (s.commandSent op arg).EndsAs (readerOf op s.rxq) :=
      (s.commandSent_searches arg hl).endsAs_readerOf rfl rfl
    cases hr : readerOf op s.rxq with
    | starved => cases (operation_of_starved hl hr arg s.measStrict).symm.trans ho
    | notFound rest =>
      cases (operation_of_notFound hl hr arg s.measStrict).symm.trans ho
      rw [hr] at hends htakes
      obtain ⟨k, r, hread, hk, rfl, hlen⟩ := hends
      have hk' : k + r.rxq.length = s.rxq.length := hk
      have hleft : s.rxq.length ≤ r.rxq.length + 69 := htakes
      exact ⟨(cmdFrame op arg).length + 1 + k, _, by omega, hsend.trans hread, s.hasOutcome_of_timeout op arg hlen⟩
    | frame cnt F rest =>
      cases (operation_of_frame hl hr arg s.measStrict).symm.trans ho
      rw [hr] at hends htakes
      obtain ⟨k, r, hread, hk, rfl, rfl, hlen, hF, hform⟩ := hends
      have hk' : k + r.rxq.length = s.rxq.length := hk
      have hleft : s.rxq.length ≤ r.rxq.length + 69 := htakes
      exact ⟨(cmdFrame op arg).length + 1 + k, _, by omega, hsend.trans hread, s.hasOutcome_of_frame arg hform hlen hF⟩

end Sys2Proof.Machine
